-- ==== Sys2Proof/Word.lean ====
section
/-! DEFINITION. The byte of the station's lines, and the shape of a timer. -/

namespace Sys2Proof

/-- A byte of a frame, of the configuration image or of a line message (11.2). -/
abbrev Byte := BitVec 8

/-- A timer: stopped, or running with the value it was started with (the unit is the timer's own:
milliseconds for the channel answer limit, the image byte limit and the debounce timers, seconds for
the others). How much of it is left is not state: an expiry is a command (log 3). -/
abbrev Timer := Option Nat

end Sys2Proof
end

