-- ==== Sys2Proof/Syntax.lean ====
section
/-! DEFINITION. The commands of the station: one constructor of `Instr` for each row of
spec/opcode_table.json, and the data their operands are made of. -/

namespace Sys2Proof

/-- An end of the deck (00_scope.md, The station in its yard). -/
inductive End where
  | a
  | b
deriving DecidableEq, Repr

/-- The direction of a crossing (R34). -/
inductive Direction where
  | inbound
  | outbound
deriving DecidableEq, Repr

/-- The role straps (R185). -/
inductive Role where
  | entry
  | exit
  | both
  | offline
deriving DecidableEq, Repr

/-- The fourteen field inputs, in the order of the table of R23. -/
inductive Input where
  | approach (e : End)
  | safety (e : End)
  | beam (e : End)
  | deckLoop
  | upLimit (e : End)
  | downLimit (e : End)
  | motorFault (e : End)
  | help
deriving DecidableEq, Repr

/-- A limit of a barrier, and the place an arrival is at (R41). -/
inductive Limit where
  | up
  | down
deriving DecidableEq, Repr

/-- The fault reasons of a barrier unit (R40). -/
inductive FaultReason where
  | travelTimeout
  | motorFault
  | limitConflict
deriving DecidableEq, Repr

/-- A channel of the converter; channel number n of the spec is `n - 1` here (R1). -/
abbrev Channel := Fin 8

/-- A station number, 0 to 15; 0 is the office terminal (R142). -/
abbrev Station := Fin 16

/-- A waste category, 0 to 15 (R118). -/
abbrev Category := Fin 16

/-- A token: 1 to 8 characters, A to Z and 0 to 9 (R59). -/
abbrev Token := List Byte

/-- A depot time that is set: a day 0 to 65,535 and a second of the day 0 to 86,399 (R169). NOT-SET is
the absence of one. -/
structure DepotTime where
  day    : Nat
  second : Nat
deriving DecidableEq, Repr

/-- The two kinds of visit (R90). -/
inductive Kind where
  | twoPass
  | storedTare
deriving DecidableEq, Repr

/-- A visit number: opener station, epoch 0 to 255, sequence 1 to 4,095 (R91). -/
structure VisitNumber where
  opener   : Station
  epoch    : Nat
  sequence : Nat
deriving DecidableEq, Repr

/-- What a claim of the lane hands the visit table unit: a visit record but for its number (R67). -/
structure Claim where
  token    : Token
  kind     : Kind
  category : Category
  rate     : Nat
  weight   : Nat
  time     : Option DepotTime
  tare     : Option Nat
  manual   : Bool
deriving DecidableEq, Repr

/-- A visit record (R90). The inbound station is the opener of the number. -/
structure VisitRecord where
  number : VisitNumber
  claim  : Claim
deriving DecidableEq, Repr

/-- A frame the lane asks for again with its first number: a VISIT-OPEN with its whole record, or a
VISIT-CLOSE (R104). -/
inductive LaneFrame where
  | openFrame (v : VisitRecord)
  | closeFrame (n : VisitNumber)
deriving DecidableEq, Repr

/-- Which of the lane's two frames was placed (R102, R103). -/
inductive PlacedKind where
  | claim
  | close
deriving DecidableEq, Repr

/-- The outcomes of a VISIT-OPEN of this station (R96, R106). -/
inductive ClaimResult where
  | admitted
  | full
  | duplicate
  | notDelivered
deriving DecidableEq, Repr

/-- The outcomes of a VISIT-CLOSE of this station (R98, R106). -/
inductive CloseResult where
  | found
  | absent
  | notDelivered
deriving DecidableEq, Repr

/-- Load direction (R122, R123). -/
inductive LoadDirection where
  | nil
  | delivery
  | collection
deriving DecidableEq, Repr

/-- A weighing on a ticket: weight in kg, time (absent for NOT-SET) and station (R128). -/
structure Weighing where
  weight  : Nat
  time    : Option DepotTime
  station : Station
deriving DecidableEq, Repr

/-- What the lane hands the ticket unit with an issue (R72). -/
structure IssueRequest where
  visit     : VisitNumber
  token     : Token
  manual    : Bool
  kind      : Kind
  category  : Category
  rate      : Nat
  inbound   : Weighing
  outbound  : Option Weighing
  tare      : Option Nat
  net       : Nat
  load      : LoadDirection
  charge    : Nat
  belowMin  : Bool
  tareOver  : Bool
deriving DecidableEq, Repr

/-- The ticket unit's answer to an issue (R131): QUEUED with the ticket number, or REFUSED. -/
inductive TicketResult where
  | queued (ticket : Nat)
  | refused
deriving DecidableEq, Repr

/-- The printer state (R135). -/
inductive PrinterState where
  | absent
  | ready
  | paperOut
  | fault
deriving DecidableEq, Repr

/-- How a frame heard on the line ended (R149, tests 1 and 2). -/
inductive FrameEnding where
  | whole
  | aborted
  | cutOff
deriving DecidableEq, Repr

/-- A frame as the station heard it (R143): identifier, length, payload, check, and how it ended. -/
structure HeardFrame where
  ident   : BitVec 10
  length  : Byte
  payload : List Byte
  check   : BitVec 16
  ending  : FrameEnding
deriving DecidableEq, Repr

/-- What a scan hands a running measurement (R10, stage 4): a CELL-FAULT, or the raw counts and the sum A
of a GOOD scan. -/
inductive CalSample where
  | cellFault
  | good (counts : List (Channel × Int)) (sum : Int)
deriving DecidableEq, Repr

/-- The activations that may end a measurement (R177). -/
inductive CalBreak where
  | beam
  | deckLoop
deriving DecidableEq, Repr

/-- The commands. Each constructor's comment names its row of spec/opcode_table.json. -/
inductive Instr where
  /-- RESET: the six strap pins as they stand, and whether a commit that the reset interrupts completed. -/
  | reset (number : BitVec 4) (role : BitVec 2) (commitCompletes : Bool)
  /-- BOOT_COUNT_COMMIT_DONE -/
  | bootCountCommitDone
  /-- CONFIG_BYTE -/
  | configByte (byte : Byte)
  /-- CONFIG_BYTE_TIMEOUT -/
  | configByteTimeout
  /-- FIRST_SCAN -/
  | firstScan
  /-- FIRST_SAMPLE -/
  | firstSample
  /-- CAL_START_CHECK -/
  | calStartCheck
  /-- ENTER_JOINING -/
  | enterJoining
  /-- PRINTER_LIMIT_START -/
  | printerLimitStart
  /-- SAMPLE: the bytes of the message on the converter line. -/
  | sample (message : List Byte)
  /-- CHANNEL_ANSWER_LIMIT_EXPIRY -/
  | channelAnswerLimitExpiry
  /-- WINDOW_EMPTY_BEAM -/
  | windowEmptyBeam
  /-- ZERO_TEST -/
  | zeroTest
  /-- RAW_INPUT_CHANGE: the electrical level the line now stands at, HIGH for true. -/
  | rawInputChange (input : Input) (level : Bool)
  /-- DEBOUNCE_EXPIRY -/
  | debounceExpiry (input : Input)
  /-- READY -/
  | ready
  /-- CAL_HOLD -/
  | calHold
  /-- UP_LIMIT_ACTIVATION -/
  | upLimitActivation (e : End)
  /-- DOWN_LIMIT_ACTIVATION -/
  | downLimitActivation (e : End)
  /-- LIMIT_RELEASE -/
  | limitRelease (e : End) (limit : Limit)
  /-- BARRIER_SAFETY_ACTIVATION -/
  | barrierSafetyActivation (e : End)
  /-- BARRIER_SAFETY_RELEASE -/
  | barrierSafetyRelease (e : End)
  /-- MOTOR_FAULT_ACTIVATION -/
  | motorFaultActivation (e : End)
  /-- MOTOR_FAULT_RELEASE -/
  | motorFaultRelease (e : End)
  /-- TRAVEL_TIMER_EXPIRY -/
  | travelTimerExpiry (e : End)
  /-- BARRIER_RESET: target station and argument of the LANE-COMMAND. -/
  | barrierReset (target : Byte) (argument : List Byte)
  /-- FLASH_TICK -/
  | flashTick
  /-- LANE_START_REPORT: presence, debounced states, beam group arm (R28). -/
  | laneStartReport (presence : Bool) (inputs : Vector Bool 14) (armed : Bool)
  /-- LANE_APPROACH_OFFER -/
  | laneApproachOffer (near : End) (direction : Direction)
  /-- ID_WAIT_EXPIRY -/
  | idWaitExpiry
  /-- READER_MESSAGE: the bytes of the message on the reader line. -/
  | readerMessage (message : List Byte)
  /-- LANE_PRESENCE_CHANGED -/
  | lanePresenceChanged (presence : Bool)
  /-- LANE_SAFETY_LOOP_EVENT -/
  | laneSafetyLoopEvent (e : End) (active : Bool)
  /-- LANE_BEAM_EVENT -/
  | laneBeamEvent (e : End) (active : Bool)
  /-- LANE_BARRIER_ARRIVAL -/
  | laneBarrierArrival (e : End) (place : Limit)
  /-- LANE_BARRIER_FAULT -/
  | laneBarrierFault (e : End) (reason : FaultReason)
  /-- CAPTURE: the displayed weight captured, in kg. -/
  | capture (weight : Nat)
  /-- LANE_CONVERTER_FAILED -/
  | laneConverterFailed
  /-- STABILITY_LIMIT_EXPIRY -/
  | stabilityLimitExpiry
  /-- STATION_ACTIVE -/
  | stationActive
  /-- LANE_FRAME_PLACED -/
  | laneFramePlaced (kind : PlacedKind) (number : VisitNumber)
  /-- CLAIM_OUTCOME -/
  | claimOutcome (number : VisitNumber) (result : ClaimResult)
  /-- CLOSE_OUTCOME -/
  | closeOutcome (number : VisitNumber) (result : CloseResult)
  /-- REMOVAL_REPORT -/
  | removalReport (number : VisitNumber)
  /-- TICKET_ANSWER -/
  | ticketAnswer (number : VisitNumber) (result : TicketResult)
  /-- LANE_PRINTER_STATE -/
  | lanePrinterState (printer : PrinterState)
  /-- CLEAR_DECK_LIMIT_EXPIRY -/
  | clearDeckLimitExpiry
  /-- LANE_HELP_PRESS -/
  | laneHelpPress
  /-- CAL_HOLD_REQUEST -/
  | calHoldRequest
  /-- CAL_HOLD_RELEASE -/
  | calHoldRelease
  /-- TOKEN -/
  | token (target : Byte) (argument : List Byte)
  /-- CATEGORY -/
  | category (target : Byte) (argument : List Byte)
  /-- RETRY -/
  | retry (target : Byte) (argument : List Byte)
  /-- PASS -/
  | pass (target : Byte) (argument : List Byte)
  /-- BACK -/
  | back (target : Byte) (argument : List Byte)
  /-- ZERO -/
  | zero (target : Byte) (argument : List Byte)
  /-- RAISE -/
  | raise (target : Byte) (argument : List Byte)
  /-- LOWER -/
  | lower (target : Byte) (argument : List Byte)
  /-- HELP_ACK -/
  | helpAck (target : Byte) (argument : List Byte)
  /-- REPRINT -/
  | reprint (target : Byte) (argument : List Byte)
  /-- VISIT_OPEN: source station and payload of the frame. -/
  | visitOpen (source : Station) (payload : List Byte)
  /-- VISIT_CLOSE -/
  | visitClose (source : Station) (payload : List Byte)
  /-- VISIT_VOID -/
  | visitVoid (payload : List Byte)
  /-- VISIT_ANNOUNCE -/
  | visitAnnounce (payload : List Byte)
  /-- CLAIM_REQUEST -/
  | claimRequest (claim : Claim)
  /-- RECLAIM -/
  | reclaim (frame : LaneFrame)
  /-- CLOSE_REQUEST -/
  | closeRequest (number : VisitNumber)
  /-- FRAME_WITHDRAW -/
  | frameWithdraw
  /-- LOOKUP -/
  | lookup (token : Token)
  /-- VISIT_QUEUE_DEPARTURE -/
  | visitQueueDeparture
  /-- CURSOR_ENABLE -/
  | cursorEnable
  /-- CURSOR_START -/
  | cursorStart (joiner : Station)
  /-- CURSOR_ADVANCE -/
  | cursorAdvance
  /-- TARE_SET -/
  | tareSet (payload : List Byte)
  /-- TARE_DROP -/
  | tareDrop (payload : List Byte)
  /-- TARIFF_SET -/
  | tariffSet (payload : List Byte)
  /-- CATEGORY_RESOLUTION: the token and the reader category, where the lane holds one. -/
  | categoryResolution (token : Token) (reader : Option Category)
  /-- CLOSED_QUESTION -/
  | closedQuestion (category : Category)
  /-- KIND_REQUEST -/
  | kindRequest (token : Token) (category : Category)
  /-- ISSUE -/
  | issue (request : IssueRequest)
  /-- ISSUE_WITHDRAW -/
  | issueWithdraw (number : VisitNumber)
  /-- TICKET_COMMIT_DONE -/
  | ticketCommitDone
  /-- BULK_QUEUE_DEPARTURE -/
  | bulkQueueDeparture
  /-- PRINTER_READY -/
  | printerReady
  /-- PRINTER_DONE -/
  | printerDone
  /-- PRINTER_BUSY -/
  | printerBusy
  /-- PRINTER_PAPER_OUT -/
  | printerPaperOut
  /-- PRINTER_FAULT -/
  | printerFault
  /-- PRINTER_ANSWER_LIMIT_EXPIRY -/
  | printerAnswerLimitExpiry
  /-- LINE_FREE -/
  | lineFree
  /-- FRAME_START_HEARD -/
  | frameStartHeard
  /-- ARBITRATION_LOST -/
  | arbitrationLost
  /-- READBACK_MISMATCH -/
  | readbackMismatch
  /-- DELIVERY -/
  | delivery
  /-- FRAME_END -/
  | frameEnd (frame : HeardFrame)
  /-- PEER_HEARD -/
  | peerHeard (source : Station)
  /-- HELLO -/
  | hello (source : Station) (payload : List Byte)
  /-- PRESENCE -/
  | presence (source : Station) (payload : List Byte)
  /-- TIME_SET -/
  | timeSet (payload : List Byte)
  /-- JOIN_WINDOW_EXPIRY -/
  | joinWindowExpiry
  /-- HEARTBEAT_EXPIRY -/
  | heartbeatExpiry
  /-- PEER_TICK -/
  | peerTick
  /-- CLOCK_TICK -/
  | clockTick
  /-- CAL_READ -/
  | calRead
  /-- STATUS -/
  | status
  /-- CAL_ZERO -/
  | calZero
  /-- CAL_SPAN: the test mass in kg. -/
  | calSpan (mass : BitVec 24)
  /-- CAL_CORNER: the channel number and the corner factor. -/
  | calCorner (channel : Byte) (factor : BitVec 24)
  /-- CAL_INTERVAL: d and Max. -/
  | calInterval (interval : Byte) (capacity : BitVec 24)
  /-- CAL_LOCK -/
  | calLock
  /-- CAL_ERASE -/
  | calErase
  /-- CAL_SCAN -/
  | calScan (sample : CalSample)
  /-- CAL_INTERRUPT -/
  | calInterrupt (cause : CalBreak)
  /-- CAL_COMMIT_DONE -/
  | calCommitDone
  /-- ROUTINE_QUEUE_DEPARTURE -/
  | routineQueueDeparture
  /-- NEAR_APPROACH_RELEASE: the end whose approach loop was released. -/
  | nearApproachRelease (e : End)
  /-- BAD_SERVICE_REQUEST -/
  | badServiceRequest
deriving DecidableEq, Repr

end Sys2Proof
end

