-- ==== Sys2Proof/Config.lean ====
section
/-! DEFINITION. The free values: what the spec leaves open and nothing in the model decides. They have no
body, so no proof can see what they are. -/

namespace Sys2Proof

/-- What bits 7 to 4 of LANE-STATUS byte 3 carry when the last office command was of a kind that the
station does not know (R80 records such a command, and the layout of 11.3 gives codes 0 to 11 only).
DESIGN CHOICE: a free value of the code heard (log 12). -/
opaque Config.unknownCommandNibble : Byte → BitVec 4

/-- The characters that stand between one part of a ticket line and the next, by line number and by
position in the line (11.3 names the parts of each line and not what separates them).
DESIGN CHOICE: a free value (log 13). -/
opaque Config.ticketGap : Nat → Nat → List Byte

end Sys2Proof
end

