-- ==== Sys2Proof/Machine/State.lean ====
section
/-! DEFINITION. The state of the station, block by block, as plain data; every field's default is its value
right after reset, and `State.reset` is a new part at its first start. -/

namespace Sys2Proof.Machine

/-- Nothing stops the machine with a fault: no rule of the spec gives an event that the station cannot
take, and none calls an effect undefined (log 34). So there is no constructor, and that is safe. -/
inductive Fault where
deriving DecidableEq, Repr

/-- Why a command has no meaning. -/
inductive Refusal where
  /-- Raised by `exec` for a row of the opcode table whose meaning is not written; safe. No arm raises it. -/
  | notModelled (mnemonic : String)
deriving DecidableEq, Repr

/-! ### Configuration loader -/

/-- How far start-up has come (R185, R186, R188). -/
inductive LoaderPhase where
  | bootCommit
  | reading
  | inForce
deriving DecidableEq, Repr

/-- The configuration loader (R185, R188). -/
structure Loader where
  station       : Station := 0
  role          : Role := .entry
  phase         : LoaderPhase := .bootCommit
  image         : List Byte := []
  byteLimit     : Timer := none
  configDefault : Bool := false
deriving DecidableEq, Repr

/-- The queues a phase of the phase table may name (R156). -/
inductive PhaseQueue where
  | visit
  | routine
  | bulk
deriving DecidableEq, Repr

/-- The two configured values of a field input (R23): active at HIGH, and debounce time in ms. -/
structure InputSetting where
  activeHigh : Bool := true
  debounce   : Nat := 100
deriving DecidableEq, Repr

/-- The default phase table: VISIT, ROUTINE, VISIT, BULK four times over (R156). -/
def defaultPhaseTable : Vector PhaseQueue 16 :=
  #v[.visit, .routine, .visit, .bulk, .visit, .routine, .visit, .bulk,
     .visit, .routine, .visit, .bulk, .visit, .routine, .visit, .bulk]

/-- The values in force (R188, 11.3); the defaults are those of the configuration image's table. -/
structure Settings where
  yardLimit      : Nat := 40
  heartbeat      : Nat := 2
  silence        : Nat := 4
  joinWindow     : Nat := 3
  windowLen      : Nat := 8
  band           : Nat := 1
  idWait         : Nat := 10
  stabilityLimit : Nat := 30
  clearDeckLimit : Nat := 60
  travelLimit    : Nat := 6
  printerLimit   : Nat := 20
  singlePass     : Bool := true
  tareTolerance  : Nat := 10
  roadEnd        : End := .a
  deckLoopFitted : Bool := false
  inputs         : Vector InputSetting 14 := Vector.replicate 14 {}
  channelMap     : BitVec 8 := 3#8
  phaseTable     : Vector PhaseQueue 16 := defaultPhaseTable
  phaseFromImage : Bool := false
  initialRates   : Vector (Option Nat) 16 := Vector.replicate 16 none
  siteName       : List Byte := List.replicate 16 0x20#8
deriving DecidableEq, Repr

/-! ### Retained store -/

/-- The calibration record (R172). -/
structure CalRecord where
  z         : Vector Int 8 := Vector.replicate 8 0
  k         : Vector Nat 8 := Vector.replicate 8 65536
  span      : Nat := 65536
  interval  : Nat := 20
  capacity  : Nat := 60000
  cellCount : Nat := 0
deriving DecidableEq, Repr

/-- A write of the calibration store, as it is asked of the retained store (R174, R178 to R182). -/
inductive CalWrite where
  | zero (values : List (Channel × Int)) (cells : Nat)
  | span (factor : Nat)
  | corner (channel : Channel) (factor : Nat)
  | interval (d capacity : Nat)
  | lock
  | erase
  | startErase
  | flagUnverified
deriving DecidableEq, Repr

/-- A commit asked of the retained store (R187). -/
inductive Commit where
  | bootCount (count : Nat)
  | ticket (number : Nat)
  | cal (write : CalWrite)
deriving DecidableEq, Repr

/-- The retained store (R187): what survives a reset, and the commits, the running one first. -/
structure Retained where
  bootCount   : Nat := 0
  lastTicket  : Nat := 0
  cal         : CalRecord := {}
  lockEngaged : Bool := false
  unverified  : Bool := true
  audit       : Nat := 0
  commits     : List Commit := []
deriving DecidableEq, Repr

/-! ### Weighing channel -/

/-- Why a scan ended as CELL-FAULT (R3). -/
inductive CellCause where
  | noAnswer
  | wrongChannel
  | overrange
deriving DecidableEq, Repr

/-- The record of the last completed scan (R3): for CELL-FAULT the channel and cause, and the raw counts
kept before it ended. -/
structure ScanRecord where
  fault  : Option (Channel × CellCause)
  counts : List (Channel × Int)
deriving DecidableEq, Repr

/-- The converter monitor's states (R4). -/
inductive Monitor where
  | warming
  | running
  | failed
deriving DecidableEq, Repr

/-- The current weight: a scan's status, and the weight of a VALID one in kg (R9). -/
inductive Weight where
  | noWeight
  | valid (kg : Int)
  | overload
  | underzero
deriving DecidableEq, Repr

/-- The weighing channel (R22). -/
structure WeighState where
  select         : Option Channel := none
  answerLimit    : Timer := none
  counts         : List (Channel × Int) := []
  lastScan       : Option ScanRecord := none
  monitor        : Monitor := .warming
  goodCount      : Nat := 0
  faultCount     : Nat := 0
  zeroSet        : Bool := false
  zero           : Int := 0
  zeroRange      : Bool := false
  window         : List Int := []
  lastMass       : Option Int := none
  current        : Weight := .noWeight
  stable         : Bool := false
  captureRequest : Bool := false
deriving DecidableEq, Repr

/-! ### Deck sensor unit -/

/-- The direction choice (R34). -/
inductive Choice where
  | shut
  | opened
  | chosen (near : End) (direction : Direction)
deriving DecidableEq, Repr

/-- The deck sensor unit (R27). `lines` are the field lines themselves, outside the station. -/
structure DeckState where
  lines         : Vector Bool 14 := Vector.replicate 14 false
  sampled       : Bool := false
  debounced     : Vector Bool 14 := Vector.replicate 14 false
  timers        : Vector Timer 14 := Vector.replicate 14 none
  armed         : Bool := false
  weightPresent : Bool := false
  presence      : Bool := false
  reportSent    : Bool := false
  choice        : Choice := .shut
  lastNear      : Option End := none
deriving DecidableEq, Repr

/-! ### Barrier units -/

/-- The barrier states (R40). -/
inductive BarrierState where
  | down
  | rising
  | up
  | falling
  | fault
deriving DecidableEq, Repr

/-- The modes of a lamp (3.5). -/
inductive LampMode where
  | off
  | on
  | flash
deriving DecidableEq, Repr

/-- A barrier unit with the requests of its signal head (R40, R51). -/
structure BarrierUnit where
  state        : BarrierState := .down
  lowerPending : Bool := false
  travel       : Timer := none
  reason       : Option FaultReason := none
  redRequest   : LampMode := .on
  greenRequest : LampMode := .off
deriving DecidableEq, Repr

/-! ### Lane controller -/

/-- The twelve lane states, in the order of the table of R60. -/
inductive LaneState where
  | idle
  | approach
  | boarding
  | weighing
  | claiming
  | held
  | closing
  | ticketing
  | departing
  | reversing
  | assist
  | deckBlocked
deriving DecidableEq, Repr

/-- The reasons of ASSIST and of help, in the order of 11.3 (1 to 14). -/
inductive Reason where
  | noToken
  | noCapture
  | converterFail
  | categoryClosed
  | duplicate
  | unmatched
  | tareDiscrepancy
  | notDelivered
  | ticketsExhausted
  | barrierFault
  | helpButton
  | deckBlocked
  | clearDeck
  | printer
deriving DecidableEq, Repr

/-- Progress of the transaction, in the order of R59. -/
inductive Progress where
  | none
  | claimOut
  | claimDropped
  | admitted
  | closeOut
  | closeDropped
  | closed
  | released
deriving DecidableEq, Repr

/-- The office commands that may be held (R84). -/
inductive HeldCommand where
  | back
  | pass
deriving DecidableEq, Repr

/-- The sign codes, in the order of R53. -/
inductive Sign where
  | blank
  | wait
  | stop
  | proceed
  | weighing
  | yardFull
  | seeOffice
  | reverse
  | takeTicket
deriving DecidableEq, Repr

/-- The help status (R54). -/
inductive HelpStatus where
  | none
  | pending
  | acknowledged
deriving DecidableEq, Repr

/-- The office commands of a LANE-COMMAND frame (11.3), and a kind the station does not know (R80). -/
inductive OfficeCommand where
  | token
  | category
  | retry
  | pass
  | back
  | zero
  | helpAck
  | barrierReset
  | reprint
  | raise
  | lower
  | unknown (code : Byte)
deriving DecidableEq, Repr

/-- The result of an office command (R80). -/
inductive CommandResult where
  | done
  | refused
  | accepted
deriving DecidableEq, Repr

/-- The last office command with its result (R80). -/
structure LastCommand where
  command : OfficeCommand
  result  : CommandResult
deriving DecidableEq, Repr

/-- The transaction record (R59). `near` carries the far end too, which is the other end. `belowMin` and
`tareOver` are the flags handed on with the net (R123, R124). -/
structure TxnRecord where
  near           : Option End := none
  direction      : Option Direction := none
  token          : Option Token := none
  manual         : Bool := false
  readerCategory : Option Category := none
  category       : Option Category := none
  boarded        : Bool := false
  capture        : Option (Nat × Option DepotTime) := none
  kind           : Option Kind := none
  rate           : Option Nat := none
  tare           : Option Nat := none
  visitRef       : Option VisitNumber := none
  visitCopy      : Option VisitRecord := none
  net            : Option Nat := none
  load           : Option LoadDirection := none
  charge         : Option Nat := none
  belowMin       : Bool := false
  tareOver       : Bool := false
  progress       : Progress := .none
  assist         : Option Reason := none
  pendingCommand : Option HeldCommand := none
deriving DecidableEq, Repr

/-- The frame the lane has asked for and that has not been placed (R67, R68, R70, R79). -/
inductive Asked where
  | claim
  | close
  | reclaim
deriving DecidableEq, Repr

/-- Which step of R74 a DEPARTING lane, or of R83 a REVERSING lane, has reached: waiting for UP, waiting
for the deck to be clear, or waiting for DOWN after its LOWER. -/
inductive Leg where
  | rising
  | clearing
  | lowering
deriving DecidableEq, Repr

/-- The lane controller (R89). -/
structure Lane where
  reported       : Bool := false
  state          : LaneState := .idle
  record         : TxnRecord := {}
  asked          : Option Asked := none
  waitActive     : Bool := false
  leg            : Leg := .rising
  ticketed       : Bool := false
  sign           : Sign := .stop
  help           : HelpStatus := .none
  lastHelp       : Option Reason := none
  orphans        : Nat := 0
  lastCommand    : Option LastCommand := none
  calHold        : Bool := false
  idWait         : Timer := none
  stabilityLimit : Timer := none
  clearDeckLimit : Timer := none
deriving DecidableEq, Repr

/-! ### Visit table unit -/

/-- A frame in the lane frame slot (R102): the frame, and whether it is a new claim, which spends its
sequence when placed (R92). -/
structure SlotFrame where
  frame : LaneFrame
  isNew : Bool
deriving DecidableEq, Repr

/-- The announce cursor (R164 to R167): walking, how many visits it has passed, its joiner set, and the
announcement that waits for room. -/
structure Cursor where
  walking  : Bool := false
  position : Nat := 0
  joiners  : List Station := []
  waiting  : Option VisitRecord := none
deriving DecidableEq, Repr

/-- The visit table unit (R112). -/
structure VisitState where
  table         : List VisitRecord := []
  sequence      : Nat := 1
  epoch         : Nat := 0
  slot          : Option SlotFrame := none
  unmatched     : Nat := 0
  conflicts     : Nat := 0
  cursor        : Cursor := {}
  cursorEnabled : Bool := false
deriving DecidableEq, Repr

/-! ### Tare and tariff store -/

/-- A stored tare record (R113). -/
structure TareRecord where
  token    : Token
  tare     : Nat
  expiry   : Option Nat
  category : Option Category
deriving DecidableEq, Repr

/-- The tare and tariff store (R127): stored tares, least recently used first; rates, `none` for CLOSED. -/
structure TareStore where
  tares  : List TareRecord := []
  tariff : Vector (Option Nat) 16 := Vector.replicate 16 none
deriving DecidableEq, Repr

/-- The store's answer to a kind request (R121). -/
inductive KindAnswer where
  | closed
  | given (kind : Kind) (rate : Nat) (tare : Option Nat)
deriving DecidableEq, Repr

/-! ### Ticket unit -/

/-- The flags of a ticket (R128). -/
structure TicketFlags where
  reprintCopy : Bool
  notForTrade : Bool
  belowMin    : Bool
  timeNotSet  : Bool
  tareOver    : Bool
  manualToken : Bool
deriving DecidableEq, Repr

/-- A ticket record (R128). -/
structure TicketRecord where
  number   : Nat
  station  : Station
  visit    : VisitNumber
  token    : Token
  category : Category
  rate     : Nat
  kind     : Kind
  inbound  : Weighing
  outbound : Option Weighing
  tare     : Option Nat
  net      : Nat
  load     : LoadDirection
  charge   : Nat
  flags    : TicketFlags
deriving DecidableEq, Repr

/-- Print states of a queue entry (R133). -/
inductive PrintState where
  | queued
  | printing
  | printed
deriving DecidableEq, Repr

/-- An entry of the ticket queue (R133). -/
structure TicketEntry where
  ticket     : TicketRecord
  printState : PrintState := .queued
  copyPlaced : Bool := false
deriving DecidableEq, Repr

/-- The ticket unit (R140). `committing` is the record whose number is being committed; while it is there
its place in the queue is held (R131). -/
structure TicketState where
  slot        : Option IssueRequest := none
  waiting     : Option IssueRequest := none
  committing  : Option TicketRecord := none
  queue       : List TicketEntry := []
  last        : Option TicketRecord := none
  printer     : PrinterState := .absent
  answerLimit : Timer := none
deriving DecidableEq, Repr

/-! ### Link controller -/

/-- The kinds of frame (R142). Kind 15 names none. -/
inductive FrameKind where
  | help
  | laneCommand
  | visitOpen
  | visitClose
  | visitVoid
  | visitAnnounce
  | hello
  | presence
  | timeSet
  | tareSet
  | tareDrop
  | tariffSet
  | calNotice
  | ticketCopy
  | laneStatus
deriving DecidableEq, Repr

/-- A frame of this station: its kind and payload; the identifier follows from the kind and the station's
number (R142). -/
structure Frame where
  kind    : FrameKind
  payload : List Byte
deriving DecidableEq, Repr

/-- The four transmit queues, which are also the priorities (R142, R152). -/
inductive QueueName where
  | urgent
  | visit
  | routine
  | bulk
deriving DecidableEq, Repr

/-- A transmit queue with the attempt count of its head (R152, R146). -/
structure TxQueue where
  frames   : List Frame := []
  attempts : Nat := 0
deriving DecidableEq, Repr

/-- The frame in transmission and the queue it heads (R144). -/
structure InTransmission where
  queue : QueueName
  frame : Frame
deriving DecidableEq, Repr

/-- The link controller (R158). QUIET, WAITING and SENDING are read off `tx` and the queues. -/
structure LinkState where
  urgent         : TxQueue := {}
  visit          : TxQueue := {}
  routine        : TxQueue := {}
  bulk           : TxQueue := {}
  pointer        : Fin 16 := 0
  tx             : Option InTransmission := none
  lineFree       : Bool := false
  begun          : Bool := false
  hearing        : Bool := false
  badCheck       : Nat := 0
  drops          : Nat := 0
  malformed      : Nat := 0
  statusDiscards : Nat := 0
  helpLost       : Nat := 0
deriving DecidableEq, Repr

/-! ### Peer monitor -/

/-- The station state (R159). -/
inductive StationState where
  | offline
  | joining
  | active
deriving DecidableEq, Repr

/-- The states of a peer table entry (R161). -/
inductive PeerState where
  | unknown
  | live
  | silent
deriving DecidableEq, Repr

/-- An entry of the peer table (R161); `reportedActive` is absent when no state was reported, and tells
ACTIVE from JOINING otherwise. -/
structure Peer where
  state          : PeerState := .unknown
  bootCount      : Option Nat := none
  reportedActive : Option Bool := none
  sinceHeard     : Nat := 0
deriving DecidableEq, Repr

/-- The peer monitor (R171). DESIGN CHOICE: `station` holds JOINING from reset on where the straps do not make the station
OFFLINE (log 42). -/
structure PeerMonitor where
  station    : StationState := .joining
  joinWindow : Timer := none
  heartbeat  : Timer := none
  ticking    : Bool := false
  table      : Vector Peer 16 := Vector.replicate 16 {}
  clock      : Option DepotTime := none
deriving DecidableEq, Repr

/-! ### Calibration store -/

/-- The requests that are held in hand (R175). -/
inductive CalRequest where
  | zero
  | span (mass : Nat)
  | corner
  | interval
  | lock
  | erase
deriving DecidableEq, Repr

/-- How far a request in hand has come: its hold asked for, measuring, or its commit running. -/
inductive CalStage where
  | awaitingHold
  | measuring
  | committing
deriving DecidableEq, Repr

/-- The request in hand, with the running sums of its measurement (R177, R179) and the GOOD scans counted. -/
structure CalInHand where
  request : CalRequest
  stage   : CalStage
  sums    : Vector Int 8 := Vector.replicate 8 0
  sumA    : Int := 0
  scans   : Nat := 0
deriving DecidableEq, Repr

/-- The events of a CAL-NOTICE (R183). -/
inductive NoticeEvent where
  | lock
  | erase
  | startErase
deriving DecidableEq, Repr

/-- A CAL-NOTICE (R183). -/
structure CalNotice where
  event       : NoticeEvent
  lockEngaged : Bool
  unverified  : Bool
  audit       : Nat
deriving DecidableEq, Repr

/-- The calibration store but for what the retained store keeps (R184). -/
structure CalState where
  inHand : Option CalInHand := none
  notice : Option CalNotice := none
deriving DecidableEq, Repr

/-! ### Lines out, answers, events -/

/-- A message the station sends on the printer line (7.4). -/
inductive PrinterMessage where
  | print (ticket : TicketRecord)
  | statusAsk
deriving DecidableEq, Repr

/-- The answer codes of the service line (10.2). -/
inductive ServiceCode where
  | ok
  | locked
  | laneBusy
  | range
  | unstable
  | cellFault
  | busy
deriving DecidableEq, Repr

/-- An answer on the service line: its code and what follows the code (11.3). -/
structure ServiceAnswer where
  code    : ServiceCode
  content : List Byte := []
deriving DecidableEq, Repr

/-- The last message the station sent on the printer line and on the service line. -/
structure LinesOut where
  printer : Option PrinterMessage := none
  service : Option ServiceAnswer := none
deriving DecidableEq, Repr

/-- The last answer given to a request that is answered at once (log 26). -/
structure Answers where
  lookup   : Option (Option VisitRecord) := none
  category : Option Category := none
  closed   : Option Bool := none
  kind     : Option KindAnswer := none
  hold     : Option Bool := none
deriving DecidableEq, Repr

/-- An event one block has given and another has not yet taken (log 2): a row of the table, or a
LANE-COMMAND of a kind the station does not know, for which the table has no row (log 12). -/
inductive Posted where
  | event (i : Instr)
  | unknownCommand (target code : Byte)
deriving DecidableEq, Repr

/-! ### The state -/

/-- The station: its twelve blocks, the lines it sends on, the answers given, the events given and not yet
taken, and the commands waiting. -/
structure State where
  loader   : Loader := {}
  cfg      : Settings := {}
  retained : Retained := {}
  weigh    : WeighState := {}
  deck     : DeckState := {}
  barrierA : BarrierUnit := {}
  barrierB : BarrierUnit := {}
  flashLit : Bool := true
  lane     : Lane := {}
  visits   : VisitState := {}
  store    : TareStore := {}
  tickets  : TicketState := {}
  link     : LinkState := {}
  peers    : PeerMonitor := {}
  cal      : CalState := {}
  lines    : LinesOut := {}
  answers  : Answers := {}
  posted   : List Posted := []
  pending  : List Instr := []
deriving DecidableEq, Repr

/-- A new part at its first start, with unconnected straps, which read 0 (11.4): the boot count commit is
running (R186), the station state is OFFLINE by those straps (R171), the own entry of the peer table is LIVE
(R161), and everything else is as R22, R27, R89, R112, R127, R140, R158, R171 and R184 give it. -/
def State.reset : State :=
  { retained := { commits := [.bootCount 1] }
    peers := { station := .offline, table := (Vector.replicate 16 ({} : Peer)).set 0 { state := .live } } }

end Sys2Proof.Machine
end

