-- ==== Sys2Proof/Machine/Operands.lean ====
section
/-! DEFINITION. The operand forms: numbers, tokens, visit records, times and codes as bytes, and the messages
they stand in (11.2, 11.3), with the 16-bit check. -/

namespace Sys2Proof

/-! ### Ends and inputs -/

/-- The other end of the deck. -/
def End.other : End → End
  | .a => .b
  | .b => .a

/-- Which of a pair stands first in the table of R23. -/
def End.offset : End → Nat
  | .a => 0
  | .b => 1

/-- The place of an input in the table of R23, each pair A then B. -/
def Input.index : Input → Fin 14
  | .approach .a => 0
  | .approach .b => 1
  | .safety .a => 2
  | .safety .b => 3
  | .beam .a => 4
  | .beam .b => 5
  | .deckLoop => 6
  | .upLimit .a => 7
  | .upLimit .b => 8
  | .downLimit .a => 9
  | .downLimit .b => 10
  | .motorFault .a => 11
  | .motorFault .b => 12
  | .help => 13

/-! ### Rounding (00_scope.md, Rounding) -/

/-- `n / q` rounded half away from zero. -/
def roundHalfAway (n : Int) (q : Nat) : Int := n.sign * (((2 * n.natAbs + q) / (2 * q) : Nat) : Int)

/-- `n / q` rounded half up, for a quotient that is not negative. -/
def roundHalfUp (n q : Nat) : Nat := (2 * n + q) / (2 * q)

/-- `v` clamped to `lo..hi` (00_scope.md, Ranges). -/
def clampNat (lo hi v : Nat) : Nat := if v < lo then lo else if hi < v then hi else v

/-- A signed value clamped to `-m..m`. -/
def clampMagnitude (m v : Int) : Int := if v < -m then -m else if m < v then m else v

/-! ### Numbers as bytes, most significant first (R190) -/

/-- The low `k` bytes of `v`, most significant first. -/
def beBytes : Nat → Nat → List Byte
  | 0, _ => []
  | k + 1, v => BitVec.ofNat 8 (v / 256 ^ k) :: beBytes k v

/-- The number some bytes spell, most significant first. -/
def fromBe (bs : List Byte) : Nat := bs.foldl (fun acc b => acc * 256 + b.toNat) 0

/-- A signed number in two's complement on `k` bytes. -/
def signedBytes (k : Nat) (v : Int) : List Byte := beBytes k (v % ((256 ^ k : Nat) : Int)).toNat

/-- The signed number some bytes spell in two's complement. -/
def fromBeSigned (bs : List Byte) : Int :=
  if 2 * fromBe bs < 256 ^ bs.length then (fromBe bs : Int) else (fromBe bs : Int) - ((256 ^ bs.length : Nat) : Int)

/-- `len` bytes of a message, from byte `at`. -/
def field (bs : List Byte) (start len : Nat) : List Byte := (bs.drop start).take len

/-- Byte `i` of a message; 0 past its end. -/
def byteAt (bs : List Byte) (i : Nat) : Byte := bs.getD i 0#8

/-- A number on `k` bytes, or all bytes FFh when absent (R190). -/
def optBytes (k : Nat) : Option Nat → List Byte
  | none => List.replicate k 0xFF#8
  | some v => beBytes k v

/-- A Bool as a bit of weight 2^n. -/
def bit (b : Bool) (n : Nat) : Nat := if b then 2 ^ n else 0

/-- One byte from a sum of its fields. -/
def byteOf (n : Nat) : Byte := BitVec.ofNat 8 n

/-! ### The 16-bit check (R190): polynomial 1021h, starting value FFFFh, most significant bit first -/

/-- One shift of the check register. -/
def crcShift (c : BitVec 16) : BitVec 16 := if c.msb then (c <<< 1) ^^^ 0x1021#16 else c <<< 1

/-- `n` shifts of the check register. -/
def crcShifts : Nat → BitVec 16 → BitVec 16
  | 0, c => c
  | n + 1, c => crcShifts n (crcShift c)

/-- The check register after one more byte. -/
def crcByte (c : BitVec 16) (b : Byte) : BitVec 16 := crcShifts 8 (c ^^^ (b.setWidth 16 <<< 8))

/-- The check of some bytes. -/
def crc16 (bs : List Byte) : BitVec 16 := bs.foldl crcByte 0xFFFF#16

/-- A check as two bytes, most significant first. -/
def checkBytes (c : BitVec 16) : List Byte := beBytes 2 c.toNat

/-! ### Tokens (R190) -/

/-- A to Z or 0 to 9. -/
def tokenChar (b : Byte) : Bool := (0x30 ≤ b.toNat && b.toNat ≤ 0x39) || (0x41 ≤ b.toNat && b.toNat ≤ 0x5A)

/-- A token is 1 to 8 characters, each A to Z or 0 to 9 (R59). -/
def tokenValid (t : Token) : Bool := 1 ≤ t.length && t.length ≤ 8 && t.all tokenChar

/-- A token on 8 bytes, 00h to the end; all 00h when absent. -/
def tokenBytes (t : Option Token) : List Byte :=
  t.getD [] ++ List.replicate (8 - (t.getD []).length) 0#8

/-- The token 8 bytes spell; none when absent or out of range: a 00h followed by a character, or a
character that is not A to Z or 0 to 9. -/
def decodeToken (bs : List Byte) : Option Token :=
  if bs.length = 8 ∧ (bs.dropWhile (· != 0#8)).all (· == 0#8) ∧ tokenValid (bs.takeWhile (· != 0#8)) then
    some (bs.takeWhile (· != 0#8))
  else none

/-- A category byte: 0 to 15; none for FFh and for anything else. -/
def decodeCategory (b : Byte) : Option Category := if h : b.toNat < 16 then some ⟨b.toNat, h⟩ else none

/-- A category byte; FFh when absent. -/
def categoryByte : Option Category → Byte
  | none => 0xFF#8
  | some c => byteOf c.val

/-- An end byte: 0 A, 1 B. -/
def decodeEnd (b : Byte) : Option End := if b = 0#8 then some .a else if b = 1#8 then some .b else none

/-! ### Visit numbers and times (R190) -/

/-- Every field of a visit number lies in its range (R90). -/
def VisitNumber.valid (n : VisitNumber) : Bool :=
  n.opener.val != 0 && n.epoch < 256 && 1 ≤ n.sequence && n.sequence ≤ 4095

/-- A visit number on 3 bytes: opener in bits 23-20, epoch 19-12, sequence 11-0. -/
def visitNumberBytes (n : VisitNumber) : List Byte :=
  beBytes 3 (n.opener.val * 2 ^ 20 + n.epoch * 2 ^ 12 + n.sequence)

/-- A visit number; 000000h when absent. -/
def optVisitNumberBytes (n : Option VisitNumber) : List Byte := (n.map visitNumberBytes).getD [0#8, 0#8, 0#8]

/-- The visit number 3 bytes spell; none when a field is out of its range. -/
def decodeVisitNumber (bs : List Byte) : Option VisitNumber :=
  let v := fromBe bs
  let n : VisitNumber := ⟨Fin.ofNat 16 (v / 2 ^ 20), v / 2 ^ 12 % 256, v % 2 ^ 12⟩
  if bs.length = 3 ∧ n.valid then some n else none

/-- A depot time on 5 bytes; FFFFh and FFFFFFh for NOT-SET. -/
def timeBytes : Option DepotTime → List Byte
  | none => List.replicate 5 0xFF#8
  | some t => beBytes 2 t.day ++ beBytes 3 t.second

/-- The depot time 5 bytes spell (`some none` for NOT-SET); none when the second is out of range. -/
def decodeTime (bs : List Byte) : Option (Option DepotTime) :=
  let day := fromBe (field bs 0 2)
  let second := fromBe (field bs 2 3)
  if bs = List.replicate 5 0xFF#8 then some none
  else if bs.length = 5 ∧ second < 86400 then some (some ⟨day, second⟩)
  else none

/-! ### Visit records (R90, 11.3) -/

/-- The greatest tare in kg (R90). -/
def maxTare : Nat := 80000

/-- The greatest rate in cents per tonne (R118). -/
def maxRate : Nat := 999999

/-- The least capture of any deck in kg (R122). DEDUCED as the range that R94 checks an inbound weight
against (log 14). -/
def minCapture : Nat := 100

/-- The greatest capture of any deck in kg (R122; log 14). -/
def maxCapture : Nat := 80450

/-- A depot time lies in its range (R169). -/
def DepotTime.valid (t : DepotTime) : Bool := t.day < 65536 && t.second < 86400

/-- Every field of the record lies in its range, and the tare copy is present exactly when the kind is
STORED-TARE (R90, R94). -/
def Claim.valid (c : Claim) : Bool :=
  tokenValid c.token && c.rate ≤ maxRate && minCapture ≤ c.weight && c.weight ≤ maxCapture &&
    (c.time.map DepotTime.valid).getD true &&
    (match c.kind with
      | .twoPass => c.tare == none
      | .storedTare => (c.tare.map (fun t => decide (t ≤ maxTare))).getD false)

/-- A visit record is in range (R94). -/
def VisitRecord.valid (v : VisitRecord) : Bool := v.number.valid && v.claim.valid

/-- The payload of VISIT-OPEN and VISIT-ANNOUNCE, 27 bytes. -/
def visitRecordBytes (v : VisitRecord) : List Byte :=
  visitNumberBytes v.number ++ tokenBytes (some v.claim.token) ++
    [byteOf (bit (v.claim.kind == .storedTare) 7 + bit v.claim.manual 6), byteOf v.claim.category.val] ++
    beBytes 3 v.claim.rate ++ beBytes 3 v.claim.weight ++ timeBytes v.claim.time ++ optBytes 3 v.claim.tare

/-- A tare copy on 3 bytes: `some none` for FFFFFFh. -/
def decodeTareCopy (bs : List Byte) : Option Nat := if bs = List.replicate 3 0xFF#8 then none else some (fromBe bs)

/-- The claim part of a record's payload, from byte 3 on, before its range is checked. The bits of byte 11 that 11.3
does not name are not read (log 28). -/
def decodeClaimFields (bs : List Byte) : Option Claim :=
  match decodeToken (field bs 3 8), decodeCategory (byteAt bs 12), decodeTime (field bs 19 5) with
  | some token, some category, some time =>
    some { token, category, time
           kind := if (byteAt bs 11).getLsbD 7 then .storedTare else .twoPass
           manual := (byteAt bs 11).getLsbD 6
           rate := fromBe (field bs 13 3)
           weight := fromBe (field bs 16 3)
           tare := decodeTareCopy (field bs 24 3) }
  | _, _, _ => none

/-- The visit record a payload spells; none when the payload fails the check of R94. -/
def decodeVisitRecord (bs : List Byte) : Option VisitRecord :=
  match decodeVisitNumber (field bs 0 3), decodeClaimFields bs with
  | some number, some claim => if bs.length = 27 ∧ claim.valid then some ⟨number, claim⟩ else none
  | _, _ => none

/-- The inbound station of a visit is the opener of its number (R90). -/
def VisitRecord.inboundStation (v : VisitRecord) : Station := v.number.opener

/-- The frame of the lane frame slot names this visit (R102, R103). -/
def LaneFrame.number : LaneFrame → VisitNumber
  | .openFrame v => v.number
  | .closeFrame n => n

/-! ### Codes (11.3) -/

def Role.code : Role → Nat
  | .entry => 0
  | .exit => 1
  | .both => 2
  | .offline => 3

def FaultReason.code : FaultReason → Nat
  | .travelTimeout => 1
  | .motorFault => 2
  | .limitConflict => 3

def PrinterState.code : PrinterState → Nat
  | .absent => 0
  | .ready => 1
  | .paperOut => 2
  | .fault => 3

def LoadDirection.code : LoadDirection → Nat
  | .nil => 0
  | .delivery => 1
  | .collection => 2

/-- The characters of an ASCII string. -/
def chars (s : String) : List Byte := s.toList.map (fun c => BitVec.ofNat 8 c.toNat)

def LoadDirection.text : LoadDirection → List Byte
  | .nil => chars "NIL"
  | .delivery => chars "DELIVERY"
  | .collection => chars "COLLECTION"

namespace Machine

/-- The role two strap pins name (R185). -/
def roleOfStraps (b : BitVec 2) : Role :=
  if b = 0#2 then .entry else if b = 1#2 then .exit else if b = 2#2 then .both else .offline

def LaneState.code : LaneState → Nat
  | .idle => 0
  | .approach => 1
  | .boarding => 2
  | .weighing => 3
  | .claiming => 4
  | .held => 5
  | .closing => 6
  | .ticketing => 7
  | .departing => 8
  | .reversing => 9
  | .assist => 10
  | .deckBlocked => 11

def Reason.code : Reason → Nat
  | .noToken => 1
  | .noCapture => 2
  | .converterFail => 3
  | .categoryClosed => 4
  | .duplicate => 5
  | .unmatched => 6
  | .tareDiscrepancy => 7
  | .notDelivered => 8
  | .ticketsExhausted => 9
  | .barrierFault => 10
  | .helpButton => 11
  | .deckBlocked => 12
  | .clearDeck => 13
  | .printer => 14

def Progress.code : Progress → Nat
  | .none => 0
  | .claimOut => 1
  | .claimDropped => 2
  | .admitted => 3
  | .closeOut => 4
  | .closeDropped => 5
  | .closed => 6
  | .released => 7

def Sign.code : Sign → Nat
  | .blank => 0
  | .wait => 1
  | .stop => 2
  | .proceed => 3
  | .weighing => 4
  | .yardFull => 5
  | .seeOffice => 6
  | .reverse => 7
  | .takeTicket => 8

def HelpStatus.code : HelpStatus → Nat
  | .none => 0
  | .pending => 1
  | .acknowledged => 2

def CommandResult.code : CommandResult → Nat
  | .done => 1
  | .refused => 2
  | .accepted => 3

/-- The nibble of LANE-STATUS byte 3 for the last office command; for a kind the station does not know it
is a free value (log 12). -/
def OfficeCommand.nibble : OfficeCommand → Nat
  | .token => 1
  | .category => 2
  | .retry => 3
  | .pass => 4
  | .back => 5
  | .zero => 6
  | .helpAck => 7
  | .barrierReset => 8
  | .reprint => 9
  | .raise => 10
  | .lower => 11
  | .unknown code => (Config.unknownCommandNibble code).toNat

def BarrierState.code : BarrierState → Nat
  | .down => 0
  | .rising => 1
  | .up => 2
  | .falling => 3
  | .fault => 4

def LampMode.code : LampMode → Nat
  | .off => 0
  | .on => 1
  | .flash => 2

def StationState.code : StationState → Nat
  | .offline => 0
  | .joining => 1
  | .active => 2

def NoticeEvent.code : NoticeEvent → Nat
  | .lock => 1
  | .erase => 2
  | .startErase => 3

def ServiceCode.code : ServiceCode → Nat
  | .ok => 0
  | .locked => 1
  | .laneBusy => 2
  | .range => 3
  | .unstable => 4
  | .cellFault => 5
  | .busy => 6

/-- The code of the service request in hand (11.3, Service requests). -/
def CalRequest.code : CalRequest → Nat
  | .zero => 3
  | .span _ => 4
  | .corner => 5
  | .interval => 6
  | .lock => 7
  | .erase => 8

/-! ### Frame kinds (R142) -/

def FrameKind.code : FrameKind → Nat
  | .help => 0
  | .laneCommand => 1
  | .visitOpen => 2
  | .visitClose => 3
  | .visitVoid => 4
  | .visitAnnounce => 5
  | .hello => 6
  | .presence => 7
  | .timeSet => 8
  | .tareSet => 9
  | .tareDrop => 10
  | .tariffSet => 11
  | .calNotice => 12
  | .ticketCopy => 13
  | .laneStatus => 14

/-- The kind a number names; 15 names none. -/
def kindOfCode : Nat → Option FrameKind
  | 0 => some .help
  | 1 => some .laneCommand
  | 2 => some .visitOpen
  | 3 => some .visitClose
  | 4 => some .visitVoid
  | 5 => some .visitAnnounce
  | 6 => some .hello
  | 7 => some .presence
  | 8 => some .timeSet
  | 9 => some .tareSet
  | 10 => some .tareDrop
  | 11 => some .tariffSet
  | 12 => some .calNotice
  | 13 => some .ticketCopy
  | 14 => some .laneStatus
  | _ => none

/-- The priority of a kind, which is also the queue its frames are placed in (R142, R152). -/
def FrameKind.queue : FrameKind → QueueName
  | .help => .urgent
  | .laneCommand => .urgent
  | .visitOpen => .visit
  | .visitClose => .visit
  | .visitVoid => .visit
  | .visitAnnounce => .visit
  | .hello => .routine
  | .presence => .routine
  | .timeSet => .routine
  | .tareSet => .routine
  | .tareDrop => .routine
  | .tariffSet => .routine
  | .calNotice => .routine
  | .ticketCopy => .bulk
  | .laneStatus => .bulk

def QueueName.priority : QueueName → Nat
  | .urgent => 0
  | .visit => 1
  | .routine => 2
  | .bulk => 3

/-- The depth of a queue (R152). -/
def QueueName.depth : QueueName → Nat
  | .urgent => 4
  | .visit => 8
  | .routine => 8
  | .bulk => 16

def PhaseQueue.name : PhaseQueue → QueueName
  | .visit => .visit
  | .routine => .routine
  | .bulk => .bulk

/-- Kinds that only the office sends (R142). -/
def FrameKind.officeOnly : FrameKind → Bool
  | .laneCommand => true
  | .visitVoid => true
  | .timeSet => true
  | .tareSet => true
  | .tareDrop => true
  | .tariffSet => true
  | _ => false

/-- The payload length of a kind (11.3). -/
def FrameKind.length : FrameKind → Nat
  | .help => 9
  | .laneCommand => 10
  | .visitOpen => 27
  | .visitClose => 3
  | .visitVoid => 3
  | .visitAnnounce => 27
  | .hello => 5
  | .presence => 21
  | .timeSet => 5
  | .tareSet => 14
  | .tareDrop => 8
  | .tariffSet => 4
  | .calNotice => 4
  | .ticketCopy => 24
  | .laneStatus => 28

/-- The identifier of a frame: priority times 256, plus kind times 16, plus source (R142). -/
def identifier (k : FrameKind) (source : Station) : BitVec 10 :=
  BitVec.ofNat 10 (k.queue.priority * 256 + k.code * 16 + source.val)

/-- The bytes the check of a frame covers: the identifier as two bytes, the length, the payload (R190). -/
def checkedBytes (ident : BitVec 10) (length : Byte) (payload : List Byte) : List Byte :=
  beBytes 2 ident.toNat ++ length :: payload

/-- A frame as its sender puts it on the line, and as a receiver that hears it whole has it (R143). -/
def Frame.onLine (f : Frame) (source : Station) : HeardFrame :=
  { ident := identifier f.kind source
    length := byteOf f.payload.length
    payload := f.payload
    check := crc16 (checkedBytes (identifier f.kind source) (byteOf f.payload.length) f.payload)
    ending := .whole }

/-! ### LANE-COMMAND (11.3) -/

/-- The event a LANE-COMMAND payload gives the lane: a row of the table, or an unknown kind (R80). -/
def laneCommandEvent (bs : List Byte) : Posted :=
  let target := byteAt bs 0
  let code := byteAt bs 1
  let argument := field bs 2 8
  match code.toNat with
  | 1 => .event (.token target argument)
  | 2 => .event (.category target argument)
  | 3 => .event (.retry target argument)
  | 4 => .event (.pass target argument)
  | 5 => .event (.back target argument)
  | 6 => .event (.zero target argument)
  | 7 => .event (.helpAck target argument)
  | 8 => .event (.barrierReset target argument)
  | 9 => .event (.reprint target argument)
  | 10 => .event (.raise target argument)
  | 11 => .event (.lower target argument)
  | _ => .unknownCommand target code

/-- The category of a LANE-COMMAND argument: byte 2 of the payload (11.3). DESIGN CHOICE: the bytes of an argument that
11.3 sends as zeros are not read (log 53). -/
def argumentCategory (argument : List Byte) : Option Category := decodeCategory (byteAt argument 0)

/-- The end of a LANE-COMMAND argument: byte 2 of the payload (11.3); the zeros after it are not read (log 53). -/
def argumentEnd (argument : List Byte) : Option End := decodeEnd (byteAt argument 0)

/-! ### Reader and converter messages (11.3) -/

/-- A reader message: a token and, where the reader knows it, a category. None where it is not 9 bytes, or
its token or its category is out of range (R64, R190). -/
def decodeReader (message : List Byte) : Option (Token × Option Category) :=
  if message.length = 9 then
    match decodeToken (field message 0 8) with
    | none => none
    | some token =>
      if byteAt message 8 = 0xFF#8 then some (token, none)
      else (decodeCategory (byteAt message 8)).map (fun c => (token, some c))
  else none

/-- A SAMPLE message: the channel byte and the raw count. None where it is not 4 bytes (R190). -/
def decodeSample : List Byte → Option (Byte × Int)
  | [channel, x, y, z] => some (channel, fromBeSigned [x, y, z])
  | _ => none

/-- The wire number of a channel, 1 to 8. -/
def channelByte (c : Channel) : Byte := byteOf (c.val + 1)

/-- The channel a wire number names; none outside 1 to 8. -/
def channelOfByte (b : Byte) : Option Channel :=
  if h : 1 ≤ b.toNat ∧ b.toNat ≤ 8 then some ⟨b.toNat - 1, by omega⟩ else none

/-- The content of the SELECT message (11.3). -/
def selectMessage (c : Channel) : List Byte := [channelByte c]

/-! ### Service line messages (11.3) -/

/-- A service line message: a length byte, the content and the check. DEDUCED: the length counts the content,
and the check covers the length and the content, as a frame's does (log 22). -/
def serviceMessage (content : List Byte) : List Byte :=
  (byteOf content.length :: content) ++ checkBytes (crc16 (byteOf content.length :: content))

/-- An answer as the station sends it. -/
def ServiceAnswer.message (a : ServiceAnswer) : List Byte := serviceMessage (byteOf a.code.code :: a.content)

/-- The command a service line message gives the calibration store: a bad check, an unknown kind or a wrong
layout is the command BAD-SERVICE-REQUEST (R175, 11.3). -/
def serviceCommand (message : List Byte) : Instr :=
  let content := (message.drop 1).take (message.length - 3)
  if message = serviceMessage content then
    match content with
    | [1] => .calRead
    | [2] => .status
    | [3] => .calZero
    | [4, x, y, z] => .calSpan (BitVec.ofNat 24 (fromBe [x, y, z]))
    | [5, c, x, y, z] => .calCorner c (BitVec.ofNat 24 (fromBe [x, y, z]))
    | [6, d, x, y, z] => .calInterval d (BitVec.ofNat 24 (fromBe [x, y, z]))
    | [7] => .calLock
    | [8] => .calErase
    | _ => .badServiceRequest
  else .badServiceRequest

/-- The command a printer answer byte gives the ticket unit; any other byte is no answer (11.3). -/
def printerCommand (message : List Byte) : Option Instr :=
  match message with
  | [b] =>
    if b = 0x10#8 then some .printerReady
    else if b = 0x11#8 then some .printerDone
    else if b = 0x12#8 then some .printerBusy
    else if b = 0x13#8 then some .printerPaperOut
    else if b = 0x14#8 then some .printerFault
    else none
  | _ => none

/-! ### The configuration image (11.3, R188, R189) -/

/-- The length of the image. -/
def imageLength : Nat := 115

/-- The check of the image agrees: bytes 00h to 70h against bytes 71h and 72h (R188). -/
def imageCheckAgrees (image : List Byte) : Bool :=
  image.length == imageLength && field image 0x71 2 == checkBytes (crc16 (field image 0 0x71))

/-- A range-checked number of the image. -/
def imageNat (image : List Byte) (start len lo hi : Nat) : Nat := clampNat lo hi (fromBe (field image start len))

/-- A two-valued field: any value other than 0 is taken as 1 (R189). -/
def imageFlag (image : List Byte) (i : Nat) : Bool := byteAt image i != 0#8

/-- The two values of field input `i`, from its pair of bytes. -/
def imageInput (image : List Byte) (i : Nat) : InputSetting :=
  let w := fromBe (field image (0x10 + 2 * i) 2)
  { activeHigh := decide (32768 ≤ w), debounce := clampNat 20 500 (w % 512) }

/-- The number of CELL channels of a map (R1). -/
def cellCountOf (map : BitVec 8) : Nat := ((List.finRange 8).filter (fun c => map.getLsbD c.val)).length

/-- The channel map of the image; one with fewer than 2 CELL channels is replaced by channels 1 and 2 (R189). -/
def imageChannelMap (image : List Byte) : BitVec 8 :=
  if cellCountOf (byteAt image 0x2C) < 2 then 3#8 else byteAt image 0x2C

/-- The queue phase `p` names in the image: 01 VISIT, 10 ROUTINE, 11 BULK; phase 0 in bits 31-30. -/
def imagePhase (image : List Byte) (p : Nat) : Option PhaseQueue :=
  match fromBe (field image 0x2D 4) / 4 ^ (15 - p) % 4 with
  | 1 => some .visit
  | 2 => some .routine
  | 3 => some .bulk
  | _ => none

/-- The phase table of the image, where every phase names a queue and every queue is named (R156). -/
def imagePhaseTable (image : List Byte) : Option (Vector PhaseQueue 16) :=
  let phases := (List.range 16).map (imagePhase image)
  if phases.all Option.isSome && phases.contains (some .visit) && phases.contains (some .routine) &&
      phases.contains (some .bulk) then
    some (Vector.ofFn (fun p : Fin 16 => (imagePhase image p.val).getD .visit))
  else none

/-- The initial rate of a category: CLOSED when above 999,999, as FFFFFFh is, the form of absence (R118). -/
def imageRate (image : List Byte) (c : Nat) : Option Nat :=
  let r := fromBe (field image (0x31 + 3 * c) 3)
  if r ≤ maxRate then some r else none

/-- A site name character; outside 20h to 7Eh it is printed as a space (R189). -/
def imageCharacter (b : Byte) : Byte := if 0x20 ≤ b.toNat ∧ b.toNat ≤ 0x7E then b else 0x20#8

/-- The values in force from a good image (R189). -/
def settingsOfImage (image : List Byte) : Settings :=
  { yardLimit := imageNat image 0x00 1 1 96
    heartbeat := imageNat image 0x01 1 1 10
    silence := imageNat image 0x02 1 2 15
    joinWindow := imageNat image 0x03 1 1 30
    windowLen := imageNat image 0x04 1 4 16
    band := imageNat image 0x05 1 1 3
    idWait := imageNat image 0x06 1 2 60
    stabilityLimit := imageNat image 0x07 1 5 120
    clearDeckLimit := imageNat image 0x08 2 10 300
    travelLimit := imageNat image 0x0A 1 2 15
    printerLimit := imageNat image 0x0B 1 5 60
    singlePass := imageFlag image 0x0C
    tareTolerance := imageNat image 0x0D 1 1 50
    roadEnd := if imageFlag image 0x0E then .b else .a
    deckLoopFitted := imageFlag image 0x0F
    inputs := Vector.ofFn (fun i : Fin 14 => imageInput image i.val)
    channelMap := imageChannelMap image
    phaseTable := (imagePhaseTable image).getD defaultPhaseTable
    phaseFromImage := (imagePhaseTable image).isSome
    initialRates := Vector.ofFn (fun c : Fin 16 => imageRate image c.val)
    siteName := (field image 0x61 16).map imageCharacter }

/-! ### Ticket text (11.3, Ticket text) -/

/-- Decimal digits of a number, least `width` of them, with leading zeros. -/
def digits (width n : Nat) : List Byte :=
  let ds := (Nat.toDigits 10 n).map (fun c => BitVec.ofNat 8 c.toNat)
  List.replicate (width - ds.length) 0x30#8 ++ ds

/-- A weight in kg with comma groups. -/
def commaGroups (n : Nat) : List Byte :=
  if n < 1000 then digits 1 n else digits 1 (n / 1000) ++ chars "," ++ digits 3 (n % 1000)

/-- A charge in units and hundredths: 66,008 cents prints as 660.08. -/
def moneyText (cents : Nat) : List Byte := digits 1 (cents / 100) ++ chars "." ++ digits 2 (cents % 100)

/-- A visit number as R91 writes it: station, epoch and four-figure sequence joined by hyphens. -/
def visitNumberText (n : VisitNumber) : List Byte :=
  digits 1 n.opener.val ++ chars "-" ++ digits 1 n.epoch ++ chars "-" ++ digits 4 n.sequence

/-- The parts of a time: the day, then hours, minutes and seconds; or NOT SET. -/
def timeParts : Option DepotTime → List (List Byte)
  | none => [chars "NOT SET"]
  | some t => [digits 1 t.day, digits 2 (t.second / 3600), digits 2 (t.second / 60 % 60), digits 2 (t.second % 60)]

/-- The parts of a weighing line: its word, the weight, the time and the station. -/
def weighingParts (word : String) (w : Weighing) : List (List Byte) :=
  [chars word, commaGroups w.weight] ++ timeParts w.time ++ [digits 1 w.station.val]

/-- The names of the flags set, one line each (11.3). DESIGN CHOICE: the order of these lines (log 13). -/
def flagLines (f : TicketFlags) : List (List (List Byte)) :=
  (if f.reprintCopy then [[chars "REPRINT-COPY"]] else []) ++
  (if f.notForTrade then [[chars "NOT-FOR-TRADE"]] else []) ++
  (if f.belowMin then [[chars "BELOW-MIN"]] else []) ++
  (if f.timeNotSet then [[chars "TIME-NOT-SET"]] else []) ++
  (if f.tareOver then [[chars "TARE-OVER-GROSS"]] else []) ++
  (if f.manualToken then [[chars "MANUAL-TOKEN"]] else [])

/-- The lines of a ticket, each as its parts in order. -/
def ticketParts (site : List Byte) (t : TicketRecord) : List (List (List Byte)) :=
  [ [site],
    [chars "TICKET", digits 1 t.number, chars "STATION", digits 1 t.station.val],
    [visitNumberText t.visit, t.token, digits 1 t.category.val, digits 1 t.rate],
    weighingParts "IN" t.inbound,
    (match t.outbound with
      | some w => weighingParts "OUT" w
      | none => [chars "TARE", commaGroups (t.tare.getD 0)]),
    [chars "NET", commaGroups t.net, t.load.text],
    [chars "CHARGE", moneyText t.charge] ] ++ flagLines t.flags

/-- The parts of a line joined by what stands between them, a free value (log 13). -/
def joinParts (line : Nat) : Nat → List (List Byte) → List Byte
  | _, [] => []
  | _, [p] => p
  | i, p :: rest => p ++ Config.ticketGap line i ++ joinParts line (i + 1) rest

/-- The text of a ticket: each line ended by 0Ah. -/
def ticketText (site : List Byte) (t : TicketRecord) : List Byte :=
  ((ticketParts site t).zipIdx.map (fun p => joinParts p.2 0 p.1 ++ [0x0A#8])).flatten

/-- A printer line message as it is sent: PRINT is 01h, the text length in 2 bytes and the text;
STATUS-ASK is 02h. -/
def PrinterMessage.bytes (site : List Byte) : PrinterMessage → List Byte
  | .print t => 1#8 :: beBytes 2 (ticketText site t).length ++ ticketText site t
  | .statusAsk => [2#8]

end Machine
end Sys2Proof
end

