-- ==== Sys2Proof/Machine/Flags.lean ====
section
/-! DEFINITION. What is read off the state: the station's conditions and flags, the states of the inputs, the
lamps and drives, the weight arithmetic, and the flags of tickets. Nothing here changes the state. -/

namespace Sys2Proof.Machine

/-! ### The station -/

/-- The loader has handed the values in force to the blocks; until then no block takes an event (R185). -/
def State.live (s : State) : Bool := s.loader.phase == .inForce

/-- The station is OFFLINE by its straps: role OFFLINE, or station number 0 (R185). -/
def State.offline (s : State) : Bool := s.loader.role == .offline || s.loader.station == 0

/-- The lane controller takes events: its start report has been taken, and the station is not OFFLINE (R61). -/
def State.laneTakes (s : State) : Bool := s.live && s.lane.reported && !s.offline

/-- The station state is JOINING (R159). -/
def State.joining (s : State) : Bool := s.peers.station == .joining

/-- The station state is ACTIVE (R159). -/
def State.active (s : State) : Bool := s.peers.station == .active

/-- The station's own number. -/
def State.own (s : State) : Station := s.loader.station

/-- The yard end: the end that is not the road end (2.6). -/
def State.yardEnd (s : State) : End := s.cfg.roadEnd.other

/-! ### Field inputs -/

/-- The debounced state of an input is active (R24). -/
def State.active? (s : State) (i : Input) : Bool := s.deck.debounced[i.index]

/-- The raw state of an input is active: its line stands at the configured active level (R23). -/
def State.raw (s : State) (i : Input) : Bool := s.deck.lines[i.index] == s.cfg.inputs[i.index].activeHigh

/-- An input is filtered, unless it is a deck loop configured as not fitted (R25). -/
def State.filtered (s : State) (i : Input) : Bool := i != .deckLoop || s.cfg.deckLoopFitted

/-- Both end beams are clear. -/
def State.beamsClear (s : State) : Bool := !s.active? (.beam .a) && !s.active? (.beam .b)

/-- The deck loop is clear, or none is fitted (R14). -/
def State.deckLoopClear (s : State) : Bool := !(s.cfg.deckLoopFitted && s.active? .deckLoop)

/-- Presence formed anew: the deck loop fitted and occupied, or weight present (R31). -/
def State.formedPresence (s : State) : Bool := (s.cfg.deckLoopFitted && s.active? .deckLoop) || s.deck.weightPresent

/-- The deck is wholly occupied (R31). -/
def State.whollyOccupied (s : State) : Bool := s.deck.presence && s.beamsClear

/-- The direction in which a vehicle crosses that comes on at an end, where that end may be near (R35). -/
def State.directionFrom (s : State) (e : End) : Option Direction :=
  match s.loader.role with
  | .entry => if e = s.cfg.roadEnd then some .inbound else none
  | .exit => if e = s.yardEnd then some .outbound else none
  | .both => some (if e = s.cfg.roadEnd then .inbound else .outbound)
  | .offline => none

/-! ### Barriers and lamps -/

/-- The barrier unit of an end. -/
def State.barrier (s : State) : End → BarrierUnit
  | .a => s.barrierA
  | .b => s.barrierB

/-- The two drive outputs of an end, up and down (R40, R58); an OFFLINE station holds both off (R50). -/
def State.drives (s : State) (e : End) : Bool × Bool :=
  if s.offline || !s.live then (false, false)
  else ((s.barrier e).state == .rising, (s.barrier e).state == .falling)

/-- The lamp modes an end shows, red and green (R51, R52). -/
def State.lampsShown (s : State) (e : End) : LampMode × LampMode :=
  if (s.offline && s.live) || (s.barrier e).state == .fault then (.flash, .off)
  else ((s.barrier e).redRequest, (s.barrier e).greenRequest)

/-- The help lamp (R54). -/
def State.helpLamp (s : State) : LampMode :=
  match s.lane.help with
  | .none => .off
  | .pending => .flash
  | .acknowledged => .on

/-- A lamp of a given mode is lit (R51). -/
def State.lit (s : State) : LampMode → Bool
  | .off => false
  | .on => true
  | .flash => s.flashLit

/-! ### The weight arithmetic (1.4) -/

/-- The corrected cell count a_i (R6). -/
def correctedCount (c z : Int) (k : Nat) : Int := roundHalfAway ((c - z) * k) 65536

/-- The sum A of a GOOD scan (R7). -/
def sumOfCounts (cal : CalRecord) (counts : List (Channel × Int)) : Int :=
  (counts.map (fun p => correctedCount p.2 cal.z[p.1] cal.k[p.1])).sum

/-- The mass m in grams (R7). -/
def massOf (cal : CalRecord) (a : Int) : Int := roundHalfAway (a * cal.span) 65536

/-- The displayed weight W in kg, from the mass less the zero offset (R8). -/
def displayedWeight (d : Nat) (net : Int) : Int := roundHalfAway net (1000 * d) * d

/-- The status of a GOOD scan (R9). -/
def statusOf (d capacity : Nat) (w : Int) : Weight :=
  if (capacity : Int) + 9 * d < w then .overload else if w < -20 * (d : Int) then .underzero else .valid w

/-- Weight is present: VALID with W of at least 20d (R20). -/
def weightIsPresent (d : Nat) : Weight → Bool
  | .valid w => decide (20 * (d : Int) ≤ w)
  | _ => false

/-- The greatest magnitude of Z in grams: 20 × Max (1.7). -/
def zeroRangeOf (capacity : Nat) : Int := 20 * capacity

/-- A raw count at either extreme (R3). -/
def isExtreme (c : Int) : Bool := c == -8388608 || c == 8388607

/-- The scan list: the CELL channels in ascending order (R1). -/
def scanList (map : BitVec 8) : List Channel := (List.finRange 8).filter (fun c => map.getLsbD c.val)

/-- The window is full and in band (R13). -/
def windowStable (length band d : Nat) (window : List Int) : Bool :=
  window.length == length &&
    (match window with
      | [] => false
      | w :: ws => decide (ws.foldl max w - ws.foldl min w ≤ ((band * d : Nat) : Int)))

/-- The step of zero tracking: the whole of m′ or one twentieth of an interval, whichever is smaller in
magnitude (R17). -/
def trackingStep (d : Nat) (net : Int) : Int := clampMagnitude (50 * d) net

/-- A calibration measurement is running: from the grant of its hold until the lane is told of its end,
its commit included. DEDUCED (log 15). -/
def State.measuring (s : State) : Bool :=
  match s.cal.inHand with
  | some h => (match h.request with
      | .zero => h.stage != .awaitingHold
      | .span _ => h.stage != .awaitingHold
      | _ => false)
  | none => false

/-- The stage at which a measurement takes scans, and at which an activation may end it (R177, R178). -/
def State.takingScans (s : State) : Bool :=
  match s.cal.inHand with
  | some h => h.stage == .measuring
  | none => false

/-! ### Net and charge (6.4 to 6.6) -/

/-- The net of a TWO-PASS visit (R122). -/
def twoPassNet (inWeight outWeight : Nat) : Nat := max inWeight outWeight - min inWeight outWeight

/-- The load direction of a TWO-PASS visit (R122). -/
def twoPassLoad (inWeight outWeight : Nat) : LoadDirection :=
  if outWeight < inWeight then .delivery else if inWeight < outWeight then .collection else .nil

/-- The net of a STORED-TARE visit (R123). -/
def storedNet (weight tare : Nat) : Nat := weight - tare

/-- The load direction of a STORED-TARE visit (R123). -/
def storedLoad (weight tare : Nat) : LoadDirection := if tare < weight then .delivery else .nil

/-- The charge in cents (R126). -/
def chargeOf (net rate : Nat) : Nat := roundHalfUp (net * rate) 1000

/-- The net is below 20d (R124). -/
def belowMinimum (d net : Nat) : Bool := net < 20 * d

/-- The exit check of a STORED-TARE visit passes (R125). -/
def exitCheck (tolerance d weight tare : Nat) : Bool := twoPassNet weight tare ≤ tolerance * d

/-! ### Tickets -/

/-- The flags of a new ticket record (R129). -/
def newTicketFlags (unverified : Bool) (r : IssueRequest) : TicketFlags :=
  { reprintCopy := false
    notForTrade := unverified
    belowMin := r.belowMin
    timeNotSet := r.inbound.time.isNone || (r.kind == .twoPass && (r.outbound.bind (·.time)).isNone)
    tareOver := r.tareOver && r.kind == .storedTare
    manualToken := r.manual }

/-- The record of a new ticket (R128, R131). -/
def newTicket (number : Nat) (station : Station) (unverified : Bool) (r : IssueRequest) : TicketRecord :=
  { number, station, visit := r.visit, token := r.token, category := r.category, rate := r.rate, kind := r.kind
    inbound := r.inbound, outbound := r.outbound, tare := r.tare, net := r.net, load := r.load, charge := r.charge
    flags := newTicketFlags unverified r }

/-- The copy of a ticket that a reprint queues (R139). -/
def TicketRecord.asReprint (t : TicketRecord) : TicketRecord := { t with flags := { t.flags with reprintCopy := true } }

/-- The places of the ticket queue that are taken, a place held for a commit among them (R131). -/
def TicketState.placesTaken (t : TicketState) : Nat := t.queue.length + (if t.committing.isSome then 1 else 0)

/-- The greatest ticket number (R131). -/
def maxTicket : Nat := 99999999

/-- An entry is PRINTING (R135). -/
def TicketState.isPrinting (t : TicketState) : Bool := t.queue.any (fun e => e.printState == .printing)

/-! ### Tares (6.1) -/

/-- A stored tare record is expired on the depot clock (R116). -/
def TareRecord.expired (clock : Option DepotTime) (r : TareRecord) : Bool :=
  match clock, r.expiry with
  | some t, some day => day < t.day
  | _, _ => false

/-! ### Link -/

/-- A transmit queue by name. -/
def LinkState.queue (l : LinkState) : QueueName → TxQueue
  | .urgent => l.urgent
  | .visit => l.visit
  | .routine => l.routine
  | .bulk => l.bulk

/-- The three transmit states (R144). -/
inductive TransmitState where
  | quiet
  | waiting
  | sending
deriving DecidableEq, Repr

/-- Every transmit queue is empty. -/
def LinkState.allEmpty (l : LinkState) : Bool :=
  l.urgent.frames.isEmpty && l.visit.frames.isEmpty && l.routine.frames.isEmpty && l.bulk.frames.isEmpty

/-- The transmit state, read off the frame in transmission and the queues (R144). -/
def LinkState.transmit (l : LinkState) : TransmitState :=
  if l.tx.isSome then .sending else if l.allEmpty then .quiet else .waiting

/-- The first phase, from the pointer on and wrapping from 15 to 0, whose queue holds a frame (R155). -/
def choosePhase (table : Vector PhaseQueue 16) (l : LinkState) : Option (Fin 16) :=
  ((List.finRange 16).map (fun i => l.pointer + i)).find? (fun p => !(l.queue table[p].name).frames.isEmpty)

/-- The link controller hears: an OFFLINE station from its values in force on, any other from the start of
JOINING (R151, R158). -/
def State.hears (s : State) : Bool := s.live && (s.offline || s.link.begun)

/-! ### Peers -/

/-- Stations 1 to 15 that may be custodian: LIVE, reported ACTIVE, not in the joiner set (R165). -/
def custodianCandidate (table : Vector Peer 16) (joiners : List Station) (n : Station) : Bool :=
  n != 0 && table[n].state == .live && table[n].reportedActive == some true && !joiners.contains n

/-- The custodian of a visit: its opener if a candidate, otherwise the candidate of lowest number (R165). -/
def custodianOf (table : Vector Peer 16) (joiners : List Station) (opener : Station) : Option Station :=
  if custodianCandidate table joiners opener then some opener
  else (List.finRange 16).find? (custodianCandidate table joiners)

/-- A count of 0 to 65,535 that is held at 65,535 once it reaches it (R110, R157, R173). -/
def satSucc (n : Nat) : Nat := min (n + 1) 65535

end Sys2Proof.Machine
end

