-- ==== Sys2Proof/Machine/Reports.lean ====
section
/-! DEFINITION. The frames and answers the station forms from its state: HELP, LANE-STATUS, HELLO, PRESENCE,
CAL-NOTICE, TICKET-COPY, and the content of the CAL-READ and STATUS answers (11.3). -/

namespace Sys2Proof.Machine

/-! ### Frames -/

/-- A HELP frame: lane state, reason raised, token (R55). -/
def helpFrame (s : State) (reason : Reason) : Frame :=
  { kind := .help
    payload := byteOf (s.lane.state.code * 16 + reason.code) :: tokenBytes s.lane.record.token }

/-- The byte a barrier unit takes in LANE-STATUS, without the travel timer's bit. -/
def barrierBits (b : BarrierUnit) : Nat :=
  b.state.code * 32 + (b.reason.map FaultReason.code).getD 0 * 8 + bit b.lowerPending 2

/-- The lamps shown, in one byte: red A, green A, red B, green B. -/
def lampsByte (s : State) : Byte :=
  byteOf ((s.lampsShown .a).1.code * 64 + (s.lampsShown .a).2.code * 16 + (s.lampsShown .b).1.code * 4 +
    (s.lampsShown .b).2.code)

/-- The direction bits of LANE-STATUS byte 1. -/
def directionBits : Option Direction → Nat
  | none => 0
  | some .inbound => 64
  | some .outbound => 128

/-- The kind bits of LANE-STATUS byte 1. -/
def kindBits : Option Kind → Nat
  | none => 0
  | some .twoPass => 4
  | some .storedTare => 8

/-- The pending office command of LANE-STATUS byte 1. -/
def pendingBits : Option HeldCommand → Nat
  | none => 0
  | some .back => 1
  | some .pass => 2

/-- Bytes 0 to 7 of LANE-STATUS. DESIGN CHOICE: with no near end, bit 5 of byte 1 is 0 (log 47). -/
def laneStatusHead (s : State) : List Byte :=
  let r := s.lane.record
  [ byteOf (s.lane.state.code * 16 + (r.assist.map Reason.code).getD 0),
    byteOf (directionBits r.direction + bit (r.near == some .b) 5 + bit r.manual 4 + kindBits r.kind +
      pendingBits r.pendingCommand),
    byteOf (r.progress.code * 32 + s.lane.help.code * 8 + bit s.weigh.zeroRange 2 + bit s.lane.calHold 1),
    byteOf ((s.lane.lastCommand.map (fun c => c.command.nibble * 16 + c.result.code * 4)).getD 0),
    byteOf (s.lane.sign.code * 16),
    byteOf (barrierBits s.barrierA),
    byteOf (barrierBits s.barrierB),
    lampsByte s ]

/-- A LANE-STATUS frame, with the orphaned visit number where the frame reports one (R88). -/
def laneStatusFrame (s : State) (orphan : Option VisitNumber) : Frame :=
  let r := s.lane.record
  { kind := .laneStatus
    payload := laneStatusHead s ++ tokenBytes r.token ++ [categoryByte r.category] ++
      optBytes 3 (r.capture.map (·.1)) ++ optVisitNumberBytes r.visitRef ++ beBytes 2 s.lane.orphans ++
      optVisitNumberBytes orphan }

/-- A HELLO: the boot count and the role (R160). -/
def helloFrame (s : State) : Frame :=
  { kind := .hello, payload := beBytes 4 s.retained.bootCount ++ [byteOf s.loader.role.code] }

/-- The boot count of the station's own entry (R161). -/
def State.ownBootCount (s : State) : Nat := (s.peers.table[s.own].bootCount).getD 0

/-- A PRESENCE, formed from the values that stand (R168). -/
def presenceFrame (s : State) : Frame :=
  { kind := .presence
    payload := beBytes 4 s.ownBootCount ++
      [ byteOf s.loader.role.code,
        byteOf (s.peers.station.code),
        byteOf s.lane.state.code,
        byteOf s.visits.table.length,
        byteOf (bit s.loader.configDefault 7 + bit s.weigh.zeroRange 6 + bit s.retained.unverified 5 +
          s.tickets.printer.code) ] ++
      beBytes 2 s.link.badCheck ++ beBytes 2 s.link.drops ++ beBytes 2 s.link.malformed ++
      beBytes 2 s.link.statusDiscards ++ beBytes 2 s.visits.unmatched ++ beBytes 2 s.visits.conflicts }

/-- A CAL-NOTICE (R183). -/
def noticeFrame (n : CalNotice) : Frame :=
  { kind := .calNotice
    payload := [byteOf n.event.code, byteOf (bit n.lockEngaged 7 + bit n.unverified 6)] ++ beBytes 2 n.audit }

/-- A TICKET-COPY (R134). -/
def ticketCopyFrame (t : TicketRecord) : Frame :=
  { kind := .ticketCopy
    payload := beBytes 4 t.number ++ visitNumberBytes t.visit ++
      [byteOf (bit (t.kind == .storedTare) 7 + bit t.flags.reprintCopy 6 + bit t.flags.notForTrade 5 +
        bit t.flags.belowMin 4 + bit t.flags.timeNotSet 3 + bit t.flags.tareOver 2 + bit t.flags.manualToken 1)] ++
      optBytes 3 (t.outbound.map (·.weight)) ++ timeBytes (t.outbound.bind (·.time)) ++ beBytes 3 t.net ++
      [byteOf t.load.code] ++ beBytes 4 t.charge }

/-- A VISIT-OPEN or VISIT-CLOSE of the lane frame slot (R102, R103). -/
def laneFrameOf : LaneFrame → Frame
  | .openFrame v => { kind := .visitOpen, payload := visitRecordBytes v }
  | .closeFrame n => { kind := .visitClose, payload := visitNumberBytes n }

/-- A VISIT-ANNOUNCE (R166). -/
def announceFrame (v : VisitRecord) : Frame := { kind := .visitAnnounce, payload := visitRecordBytes v }

/-! ### The CAL-READ answer (R176, 11.3) -/

/-- What CAL-READ adds after the answer code. -/
def calReadContent (r : Retained) : List Byte :=
  (r.cal.z.toList.map (signedBytes 3)).flatten ++ (r.cal.k.toList.map (beBytes 3)).flatten ++ beBytes 3 r.cal.span ++
    [byteOf r.cal.interval] ++ beBytes 3 r.cal.capacity ++ [byteOf r.cal.cellCount] ++
    [byteOf (bit r.lockEngaged 7 + bit r.unverified 6)] ++ beBytes 2 r.audit

/-! ### The STATUS answer (R176, 11.3) -/

def CellCause.code : CellCause → Nat
  | .noAnswer => 1
  | .wrongChannel => 2
  | .overrange => 3

def Monitor.code : Monitor → Nat
  | .warming => 0
  | .running => 1
  | .failed => 2

def Weight.code : Weight → Nat
  | .noWeight => 0
  | .valid _ => 1
  | .overload => 2
  | .underzero => 3

def PrintState.code : PrintState → Nat
  | .queued => 1
  | .printing => 2
  | .printed => 3

def PeerState.code : PeerState → Nat
  | .unknown => 0
  | .live => 1
  | .silent => 2

/-- The last completed scan: outcome, cause and faulted channel in one byte. -/
def scanByte : Option ScanRecord → Byte
  | none => 0#8
  | some r =>
    match r.fault with
    | none => byteOf 64
    | some (c, cause) => byteOf (128 + cause.code * 16 + (c.val + 1))

/-- The raw count a completed scan holds for a channel. -/
def scanCount (r : Option ScanRecord) (c : Channel) : Option Int :=
  (r.bind (fun r => r.counts.find? (fun p => p.1 == c))).map (·.2)

/-- The channels whose raw count the last completed scan holds: bit n−1 for channel n. -/
def scanMask (r : Option ScanRecord) : Nat :=
  ((List.finRange 8).map (fun c => bit (scanCount r c).isSome c.val)).sum

/-- The weighing channel's part of STATUS. -/
def statusWeigh (s : State) : List Byte :=
  let w := s.weigh
  [scanByte w.lastScan, byteOf (scanMask w.lastScan)] ++
    ((List.finRange 8).map (fun c => signedBytes 3 ((scanCount w.lastScan c).getD 0))).flatten ++
    [byteOf (w.monitor.code * 64 + w.faultCount), byteOf w.goodCount] ++
    (match w.lastMass with
      | none => [0x80#8, 0#8, 0#8, 0#8, 0#8]
      | some m => signedBytes 5 m) ++
    [byteOf (w.current.code * 64 + bit w.stable 5)] ++
    (match w.current with
      | .valid kg => signedBytes 3 kg
      | _ => List.replicate 3 0xFF#8) ++
    signedBytes 3 w.zero ++
    [byteOf (bit w.zeroSet 7 + bit w.zeroRange 6), s.cfg.channelMap]

/-- The debounced states of the 14 inputs, from bit 15 down. -/
def inputBits (v : Vector Bool 14) : Nat := ((List.finRange 14).map (fun i => bit v[i] (15 - i.val))).sum

/-- The direction choice in one byte. -/
def choiceByte : Choice → Byte
  | .shut => 0#8
  | .opened => byteOf 64
  | .chosen near direction => byteOf (128 + bit (near == .b) 5 + bit (direction == .outbound) 4)

/-- The deck sensor unit's, barrier units' and ticket unit's parts of STATUS. -/
def statusDeck (s : State) : List Byte :=
  beBytes 2 (inputBits s.deck.debounced) ++
    [ choiceByte s.deck.choice,
      byteOf (barrierBits s.barrierA + bit s.barrierA.travel.isSome 1),
      byteOf (barrierBits s.barrierB + bit s.barrierB.travel.isSome 1),
      lampsByte s,
      byteOf (s.tickets.queue.length * 32 + (s.tickets.queue.head?.map (fun e => e.printState.code)).getD 0 * 8 +
        s.tickets.printer.code) ]

/-- The link controller's part of STATUS. -/
def statusLink (s : State) : List Byte :=
  [ byteOf s.link.urgent.frames.length, byteOf s.link.visit.frames.length, byteOf s.link.routine.frames.length,
    byteOf s.link.bulk.frames.length, byteOf (s.link.pointer.val * 16 + bit s.cfg.phaseFromImage 0) ] ++
    beBytes 2 s.link.badCheck ++ beBytes 2 s.link.drops ++ beBytes 2 s.link.malformed ++
    beBytes 2 s.link.statusDiscards ++ beBytes 2 s.link.helpLost

/-- An entry of the peer table, 7 bytes. -/
def peerBytes (p : Peer) : List Byte :=
  byteOf (bit p.bootCount.isSome 7 + p.state.code) :: beBytes 4 (p.bootCount.getD 0) ++
    beBytes 2 (if p.state = .unknown then 0 else p.sinceHeard)

/-- The peer monitor's part of STATUS. -/
def statusPeers (s : State) : List Byte :=
  byteOf (s.peers.station.code) :: (s.peers.table.toList.map peerBytes).flatten ++
    timeBytes s.peers.clock

/-- The announce cursor's part of STATUS. -/
def statusCursor (v : VisitState) : List Byte :=
  let c := v.cursor
  [byteOf (bit c.walking 7 + bit c.waiting.isSome 6)] ++
    optVisitNumberBytes (if c.walking then (v.table[c.position]?).map (·.number) else none) ++
    beBytes 2 ((List.finRange 16).map (fun n => bit (c.joiners.contains n) n.val)).sum

/-- The calibration store's and the loader's parts of STATUS. -/
def statusCal (s : State) : List Byte :=
  [ byteOf ((s.cal.inHand.map (fun h => h.request.code)).getD 0),
    byteOf ((s.cal.inHand.map (fun h => h.scans)).getD 0),
    byteOf (bit s.loader.configDefault 7) ]

/-- What STATUS adds after the answer code. -/
def statusContent (s : State) : List Byte :=
  statusWeigh s ++ statusDeck s ++ statusLink s ++ statusPeers s ++ statusCursor s.visits ++ statusCal s

end Sys2Proof.Machine
end

