-- ==== Sys2Proof/Machine/Ops.lean ====
section
/-! DEFINITION. The operations the meanings share: giving and taking events, placing frames, driving barriers,
the lamps, help, LANE-STATUS, the capture request, commits and answers. -/

namespace Sys2Proof.Machine

/-- What a command answers. -/
abbrev Result := Host.Outcome State Fault Refusal

/-! ### Taking and giving events -/

/-- `f` once the values in force are handed on; until then no block takes an event (R185). -/
def State.whenLive (s : State) (f : State → State) : State := if s.live then f s else s

/-- `f` where the lane controller takes events (R61). -/
def State.whenLane (s : State) (f : State → State) : State := if s.laneTakes then f s else s

/-- An event is given to another block, which takes it in its own time (R26; log 2). -/
def State.post (s : State) (i : Instr) : State := { s with posted := s.posted ++ [.event i] }

/-- An event is given where a condition holds. -/
def State.postIf (s : State) (c : Bool) (i : Instr) : State := if c then s.post i else s

/-- An event is given to the lane controller, which is given none before the start report (R26, R28). -/
def State.postLane (s : State) (i : Instr) : State := s.postIf s.deck.reportSent i

/-- An event is taken: where it stood among the events given, it stands there no longer (log 2). -/
def State.took (s : State) (i : Instr) : State := { s with posted := s.posted.erase (.event i) }

/-! ### Counts of the link controller (R157) -/

/-- A frame is discarded as malformed (R149, R94, R114). -/
def State.countMalformed (s : State) : State :=
  { s with link := { s.link with malformed := satSucc s.link.malformed } }

/-! ### Placing frames (R152, R144, R155) -/

/-- A transmit queue replaced. -/
def LinkState.setQueue (l : LinkState) (q : QueueName) (t : TxQueue) : LinkState :=
  match q with
  | .urgent => { l with urgent := t }
  | .visit => { l with visit := t }
  | .routine => { l with routine := t }
  | .bulk => { l with bulk := t }

/-- The frame to offer is chosen and started (R155): URGENT first, otherwise the phase pointer advances to
the first phase whose queue holds a frame. The line is BUSY from the start of the frame (R144). -/
def LinkState.start (l : LinkState) (table : Vector PhaseQueue 16) : LinkState :=
  match l.urgent.frames.head? with
  | some f => { l with tx := some ⟨.urgent, f⟩, lineFree := false }
  | none =>
    match choosePhase table l with
    | none => l
    | some p =>
      match (l.queue table[p].name).frames.head? with
      | none => { l with pointer := p }
      | some f => { l with pointer := p, tx := some ⟨table[p].name, f⟩, lineFree := false }

/-- A station that is not sending, whose line is FREE and which has begun JOINING, starts a frame (R144, R158). -/
def State.tryStart (s : State) : State :=
  if s.link.begun && !s.offline && s.link.lineFree && s.link.tx.isNone then
    { s with link := s.link.start s.cfg.phaseTable }
  else s

/-- A frame added at the tail of its queue. -/
def LinkState.push (l : LinkState) (f : Frame) : LinkState :=
  l.setQueue f.kind.queue { l.queue f.kind.queue with frames := (l.queue f.kind.queue).frames ++ [f] }

/-- The queue of a frame has room (R152). -/
def LinkState.hasRoom (l : LinkState) (q : QueueName) : Bool := (l.queue q).frames.length < q.depth

/-- A frame handed to the link controller, and its answer, PLACED or FULL (R152). On an OFFLINE station it is
answered PLACED and discarded; before JOINING a ROUTINE frame is answered FULL (R158). -/
def State.place (s : State) (f : Frame) : State × Bool :=
  if s.offline then (s, true)
  else if f.kind.queue == .routine && !s.link.begun then (s, false)
  else if s.link.hasRoom f.kind.queue then ({ s with link := s.link.push f }.tryStart, true)
  else (s, false)

/-- A LANE-STATUS is placed, or discarded and counted (R88, R153). -/
def State.placeStatus (s : State) (orphan : Option VisitNumber) : State :=
  let r := s.place (laneStatusFrame s orphan)
  if r.2 then r.1 else { r.1 with link := { r.1.link with statusDiscards := satSucc r.1.link.statusDiscards } }

/-- A LANE-STATUS that reports no orphan. -/
def State.report (s : State) : State := s.placeStatus none

/-- A HELP is placed, or lost and counted (R55, R153). -/
def State.placeHelp (s : State) (reason : Reason) : State :=
  let r := s.place (helpFrame s reason)
  if r.2 then r.1 else { r.1 with link := { r.1.link with helpLost := satSucc r.1.link.helpLost } }

/-! ### Help (R54) -/

/-- Help is raised with a reason (R54). -/
def State.raiseHelp (s : State) (reason : Reason) : State :=
  if s.lane.help = .pending ∧ (reason = .helpButton ∨ s.lane.lastHelp = some reason) then s
  else
    let t := s.placeHelp reason
    { t with lane := { t.lane with help := .pending, lastHelp := some reason } }

/-! ### Barrier units (chapter 3) -/

/-- The barrier unit of an end replaced. -/
def State.setBarrier (s : State) (e : End) (b : BarrierUnit) : State :=
  match e with
  | .a => { s with barrierA := b }
  | .b => { s with barrierB := b }

/-- The barrier units take events: from the first sample on, and never on an OFFLINE station (R50). -/
def State.barriersWork (s : State) : Bool := s.live && s.deck.sampled && !s.offline

/-- Entry into FAULT: drives off, timer stopped, slot emptied, reason set, the lane told (R48). A barrier
already in FAULT takes no step. -/
def State.enterFault (s : State) (e : End) (reason : FaultReason) : State :=
  if (s.barrier e).state = .fault then s
  else (s.setBarrier e { s.barrier e with
          state := .fault, travel := none, lowerPending := false, reason := some reason }).postLane
        (.laneBarrierFault e reason)

/-- A down-limit activation taken by a barrier unit: a limit conflict, the arrival at DOWN, or nothing
(R45, R47). -/
def State.takeDownLimit (s : State) (e : End) : State :=
  if (s.barrier e).state = .fault then s
  else if s.active? (.upLimit e) then s.enterFault e .limitConflict
  else if (s.barrier e).state = .falling then
    (s.setBarrier e { s.barrier e with state := .down, travel := none }).postLane (.laneBarrierArrival e .down)
  else s

/-- Entry into FALLING: the timer is started with T_bar and the slot emptied; a down-limit already active
is taken at once (R43, R44, R46). -/
def State.startFall (s : State) (e : End) : State :=
  let t := s.setBarrier e { s.barrier e with
    state := .falling, travel := some s.cfg.travelLimit, lowerPending := false }
  if s.active? (.downLimit e) then t.takeDownLimit e else t

/-- An up-limit activation taken by a barrier unit: a limit conflict, the arrival at UP with a pending LOWER
acted on, or nothing (R44, R47). -/
def State.takeUpLimit (s : State) (e : End) : State :=
  if (s.barrier e).state = .fault then s
  else if s.active? (.downLimit e) then s.enterFault e .limitConflict
  else if (s.barrier e).state = .rising then
    let t := (s.setBarrier e { s.barrier e with state := .up, travel := none }).postLane (.laneBarrierArrival e .up)
    if (s.barrier e).lowerPending && !s.active? (.safety e) then t.startFall e else t
  else s

/-- Entry into RISING, with the slot as given: the timer is started afresh with T_bar; an up-limit already
active is taken at once (R43, R45, R46). -/
def State.startRise (s : State) (e : End) (lowerPending : Bool) : State :=
  let t := s.setBarrier e { s.barrier e with
    state := .rising, travel := some s.cfg.travelLimit, lowerPending := lowerPending }
  if s.active? (.upLimit e) then t.takeUpLimit e else t

/-- RAISE, and whether it is ACCEPTED (R41 to R45). DESIGN CHOICE: it acts before the first sample too, on the state
presumed until then (log 54), and so does LOWER. -/
def State.raiseBarrier (s : State) (e : End) : State × Bool :=
  match (s.barrier e).state with
  | .fault => (s, false)
  | .down => (s.startRise e false, true)
  | .falling => (s.startRise e false, true)
  | .rising => (s.setBarrier e { s.barrier e with lowerPending := false }, true)
  | .up => (s.setBarrier e { s.barrier e with lowerPending := false }, true)

/-- LOWER, and whether it is ACCEPTED (R41 to R45; before the first sample log 54). -/
def State.lowerBarrier (s : State) (e : End) : State × Bool :=
  match (s.barrier e).state with
  | .fault => (s, false)
  | .down => (s, true)
  | .falling => (s, true)
  | .rising => (s.setBarrier e { s.barrier e with lowerPending := true }, true)
  | .up =>
    if s.active? (.safety e) then (s.setBarrier e { s.barrier e with lowerPending := true }, true)
    else (s.startFall e, true)

/-- The lane sets the requested modes of the head of an end (R51). -/
def State.requestHead (s : State) (e : End) (red green : LampMode) : State :=
  s.setBarrier e { s.barrier e with redRequest := red, greenRequest := green }

/-- Both heads red ON and green OFF, but for the green given at one end (R60): its red is OFF and its green ON. -/
def State.requestHeads (s : State) (green : Option End) : State :=
  let mode (e : End) : LampMode × LampMode := if green = some e then (.off, .on) else (.on, .off)
  (s.requestHead .a (mode .a).1 (mode .a).2).requestHead .b (mode .b).1 (mode .b).2

/-! ### The weighing channel's window and capture request (R12, R19) -/

/-- The stability window is emptied (R12). -/
def State.emptyWindow (s : State) : State := { s with weigh := { s.weigh with window := [] } }

/-- The capture request is opened, which empties the window (R19). -/
def State.openCapture (s : State) : State :=
  { s with weigh := { s.weigh with captureRequest := true, window := [] } }

/-- The capture request is closed (R19). -/
def State.closeCapture (s : State) : State := { s with weigh := { s.weigh with captureRequest := false } }

/-- Z and the zero state are set; the window is emptied where Z has changed (R12). -/
def WeighState.setZero (w : WeighState) (z : Int) (isSet : Bool) : WeighState :=
  { w with zero := z, zeroSet := isSet, window := if z = w.zero then w.window else [] }

/-! ### The retained store (R187) -/

/-- A commit is asked for: it runs, or waits behind those asked for before it (R187). -/
def State.askCommit (s : State) (c : Commit) : State :=
  { s with retained := { s.retained with commits := s.retained.commits ++ [c] } }

/-! ### Lines out -/

/-- An answer is sent on the service line (R175). -/
def State.answer (s : State) (code : ServiceCode) (content : List Byte := []) : State :=
  { s with lines := { s.lines with service := some { code, content } } }

/-- A message is sent on the printer line. -/
def State.sendPrinter (s : State) (m : PrinterMessage) : State :=
  { s with lines := { s.lines with printer := some m } }

end Sys2Proof.Machine
end

