-- ==== Sys2Proof/Machine/Weighing.lean ====
section
/-! DEFINITION. The weighing channel: SAMPLE, CHANNEL_ANSWER_LIMIT_EXPIRY, WINDOW_EMPTY_BEAM, ZERO_TEST, and
the work of a scan's end (chapter 1). FIRST_SCAN stands with start-up. -/

namespace Sys2Proof.Machine

/-- The channel answer limit in ms (R2). -/
def channelAnswerLimit : Nat := 50

/-- A channel is taken: SELECT is sent and the channel answer limit started (R2). -/
def WeighState.selectChannel (w : WeighState) (c : Channel) : WeighState :=
  { w with select := some c, answerLimit := some channelAnswerLimit }

/-- A scan begins: the first channel of the scan list is selected (R3). -/
def State.beginScan (s : State) : State :=
  match (scanList s.cfg.channelMap).head? with
  | none => s
  | some c => { s with weigh := { s.weigh with counts := [] }.selectChannel c }

/-- The channel after `c` in the scan list (R3). -/
def nextChannel (map : BitVec 8) (c : Channel) : Option Channel := (scanList map).find? (fun n => c < n)

/-! ### Stage 1: the converter monitor (R4) -/

/-- The monitor's state after a GOOD scan, with the good count now `good`. -/
def Monitor.afterGood (good : Nat) : Monitor → Monitor
  | .warming => if good = 16 then .running else .warming
  | .running => .running
  | .failed => .warming

/-- The monitor's state after a CELL-FAULT scan, with the fault count now `faults`. -/
def Monitor.afterFault (faults : Nat) : Monitor → Monitor
  | .warming => if faults = 3 then .failed else .warming
  | .running => if faults = 3 then .failed else .running
  | .failed => .failed

/-- The monitor takes a completed scan (R4). -/
def WeighState.monitorScan (w : WeighState) (isGood : Bool) : WeighState :=
  if isGood then
    let good := min (w.goodCount + 1) 16
    { w with goodCount := good, faultCount := 0, monitor := w.monitor.afterGood good }
  else
    let faults := min (w.faultCount + 1) 3
    { w with goodCount := 0, faultCount := faults, monitor := w.monitor.afterFault faults }

/-! ### Stages 2 and 3: weight, window, STABLE (R6 to R9, R11 to R13) -/

/-- The status and weight of a scan are formed; a GOOD scan sets the last mass (R7 to R9). -/
def WeighState.formWeight (w : WeighState) (cal : CalRecord) (isGood : Bool) : WeighState :=
  if isGood then
    let m := massOf cal (sumOfCounts cal w.counts)
    { w with lastMass := some m, current := statusOf cal.interval cal.capacity (displayedWeight cal.interval (m - w.zero)) }
  else { w with current := .noWeight }

/-- The most recent weights, at most `length` of them (R11). -/
def windowAfter (length : Nat) (window : List Int) (kg : Int) : List Int :=
  (window ++ [kg]).drop (window.length + 1 - length)

/-- The window takes the scan, and STABLE is judged (R11 to R13). -/
def WeighState.judge (w : WeighState) (cfg : Settings) (d : Nat) : WeighState :=
  match w.current with
  | .valid kg =>
    let window := windowAfter cfg.windowLen w.window kg
    { w with window := window, stable := windowStable cfg.windowLen cfg.band d window }
  | _ => { w with window := [], stable := false }

/-! ### Stage 4: the result handed on (R10, R19, R20, R28, R31) -/

/-- Presence formed anew; a change is told to the lane (R31). -/
def State.updatePresence (s : State) : State :=
  if s.formedPresence = s.deck.presence then s
  else ({ s with deck := { s.deck with presence := s.formedPresence } }).postLane
        (.lanePresenceChanged s.formedPresence)

/-- A barrier in FAULT at the start report gives its event directly after it (R50). -/
def State.postStartFault (s : State) (e : End) : State :=
  match (s.barrier e).state, (s.barrier e).reason with
  | .fault, some reason => s.postIf (!s.offline) (.laneBarrierFault e reason)
  | _, _ => s

/-- The start report is sent (R28), and after it the barrier faults that stand (R50). -/
def State.sendStartReport (s : State) : State :=
  let t := { s with deck := { s.deck with presence := s.formedPresence, reportSent := true } }
  ((t.post (.laneStartReport t.deck.presence t.deck.debounced t.deck.armed)).postStartFault .a).postStartFault .b

/-- The deck sensor unit takes the weight answer of a scan (R20, R28, R31). DESIGN CHOICE: the first scan sends the
start report also where FIRST_SAMPLE has not been taken, with the input states as they then stand (log 43). -/
def State.takeWeightAnswer (s : State) : State :=
  let t := { s with deck := { s.deck with weightPresent := weightIsPresent s.retained.cal.interval s.weigh.current } }
  if s.deck.reportSent then t.updatePresence else t.sendStartReport

/-- Every condition of a capture holds (R19). -/
def State.captureHolds (s : State) : Bool :=
  s.weigh.captureRequest && s.weigh.stable && s.weigh.monitor == .running && s.weigh.zeroSet && s.whollyOccupied &&
    s.deck.armed && weightIsPresent s.retained.cal.interval s.weigh.current

/-- The weight of the current scan, as a capture carries it. -/
def Weight.kg : Weight → Nat
  | .valid w => w.toNat
  | _ => 0

/-- The capture is given where every condition holds, and the request is closed (R19). -/
def State.giveCapture (s : State) : State :=
  if s.captureHolds then (s.post (.capture s.weigh.current.kg)).closeCapture else s

/-- A running measurement takes the scan with its raw counts and its sum A (R10). -/
def State.giveCalScan (s : State) (fault : Option (Channel × CellCause)) : State :=
  s.postIf s.takingScans (.calScan (match fault with
    | some _ => .cellFault
    | none => .good s.weigh.counts (sumOfCounts s.retained.cal s.weigh.counts)))

/-! ### Stage 5: the zero step (R14, R17) -/

/-- The conditions that initial zero, tracking and ZERO share: a VALID STABLE scan, RUNNING, the deck loop
clear, no measurement (R14, R17, R18). -/
def State.quiet (s : State) : Bool :=
  (match s.weigh.current with | .valid _ => true | _ => false) && s.weigh.stable && s.weigh.monitor == .running &&
    s.deckLoopClear && !s.measuring

/-- The mass lies within the zero range (R14, R18). -/
def State.massInRange (s : State) (m : Int) : Bool := decide ((m.natAbs : Int) ≤ zeroRangeOf s.retained.cal.capacity)

/-- The initial-zero test (R14). -/
def State.initialZero (s : State) (m : Int) : State :=
  if s.quiet && s.beamsClear && s.lane.state == .idle then
    if s.massInRange m then { s with weigh := { s.weigh.setZero m true with zeroRange := false } }
    else { s with weigh := { s.weigh with zeroRange := true } }
  else s

/-- Zero tracking (R17). -/
def State.trackZero (s : State) (m : Int) : State :=
  let d := s.retained.cal.interval
  if s.quiet && !weightIsPresent d s.weigh.current && decide (((m - s.weigh.zero).natAbs : Int) ≤ 500 * d) then
    let z := clampMagnitude (zeroRangeOf s.retained.cal.capacity) (s.weigh.zero + trackingStep d (m - s.weigh.zero))
    { s with weigh := s.weigh.setZero z true }
  else s

/-- The zero step of a scan's end (R10, stage 5). -/
def State.zeroStep (s : State) (isGood : Bool) : State :=
  match isGood, s.weigh.lastMass with
  | true, some m => if s.weigh.zeroSet then s.trackZero m else s.initialZero m
  | _, _ => s

/-! ### The scan's end (R10) -/

/-- Stages 1 to 3, with the scan's record made (R3). -/
def State.measureScan (s : State) (fault : Option (Channel × CellCause)) : State :=
  let failed := (s.weigh.monitorScan fault.isNone).monitor == .failed && s.weigh.monitor != .failed
  let w := ((s.weigh.monitorScan fault.isNone).formWeight s.retained.cal fault.isNone).judge s.cfg s.retained.cal.interval
  ({ s with weigh := { w with lastScan := some ⟨fault, s.weigh.counts⟩ } }).postIf
    (failed && s.deck.reportSent) .laneConverterFailed

/-- A scan ends, and the next begins (R10, R3). -/
def State.endScan (s : State) (fault : Option (Channel × CellCause)) : State :=
  ((((((s.measureScan fault).takeWeightAnswer).giveCapture).giveCalScan fault).zeroStep fault.isNone)).beginScan

/-- The selected channel gave a count: an extreme ends the scan, the last count inside them ends it GOOD,
and any other selects the next channel (R3). -/
def State.takeCount (s : State) (c : Channel) (count : Int) : State :=
  if isExtreme count then s.endScan (some (c, .overrange))
  else
    let t := { s with weigh := { s.weigh with counts := s.weigh.counts ++ [(c, count)] } }
    match nextChannel s.cfg.channelMap c with
    | some n => { t with weigh := t.weigh.selectChannel n }
    | none => t.endScan none

/-! ### The commands -/

/-- SAMPLE (R2, R3): discarded while no SELECT waits; a message that is not 4 bytes is no message (R190). -/
def execSample (message : List Byte) (s : State) : Result :=
  .next (s.whenLive fun s =>
    match s.weigh.select, decodeSample message with
    | some c, some (b, count) =>
      if b = channelByte c then s.takeCount c count else s.endScan (some (c, .wrongChannel))
    | _, _ => s)

/-- CHANNEL_ANSWER_LIMIT_EXPIRY: the scan ends as CELL-FAULT with cause NO-ANSWER (R2). -/
def execChannelAnswerLimitExpiry (s : State) : Result :=
  .next (s.whenLive fun s =>
    match s.weigh.select, s.weigh.answerLimit with
    | some c, some _ => s.endScan (some (c, .noAnswer))
    | _, _ => s)

/-- WINDOW_EMPTY_BEAM: the activation of an end beam empties the window (R12, R29). -/
def execWindowEmptyBeam (s : State) : Result :=
  .next ((s.took .windowEmptyBeam).whenLive State.emptyWindow)

/-- The test of a ZERO on the last completed scan but for its range (R18). -/
def State.zeroTestHolds (s : State) : Bool := s.quiet && s.beamsClear

/-- The answer of the weighing channel to a ZERO: Z, the zero state, ZERO-RANGE, and DONE or REFUSED (R18). -/
def State.testZero (s : State) : State × CommandResult :=
  match s.weigh.lastMass with
  | none => (s, .refused)
  | some m =>
    if s.zeroTestHolds then
      if s.massInRange m then ({ s with weigh := { s.weigh.setZero m true with zeroRange := false } }, .done)
      else ({ s with weigh := { s.weigh with zeroRange := true } }, .refused)
    else (s, .refused)

/-- ZERO_TEST: the weighing channel tests the last completed scan and answers; the lane controller reports
the answer in LANE-STATUS (R18, R85; log 25). -/
def execZeroTest (s : State) : Result :=
  .next ((s.took .zeroTest).whenLive fun s =>
    let r := s.testZero
    ({ r.1 with lane := { r.1.lane with lastCommand := some ⟨.zero, r.2⟩ } }).report)

end Sys2Proof.Machine
end

