-- ==== Sys2Proof/Machine/Startup.lean ====
section
/-! DEFINITION. Start-up: RESET, BOOT_COUNT_COMMIT_DONE, CONFIG_BYTE, CONFIG_BYTE_TIMEOUT, and the first event
of each block (11.1, R27, R50, R159, R160, R174). -/

namespace Sys2Proof.Machine

/-! ### Writes of the retained store (R172, R173, R178 to R182) -/

/-- The cell zeros with those of some channels replaced (R178). -/
def setZeros (z : Vector Int 8) (values : List (Channel × Int)) : Vector Int 8 :=
  values.foldl (fun z p => z.set p.1 p.2) z

/-- An erasure: the defaults, the lock DISENGAGED, UNVERIFIED set, the audit counter increased (R182, R173). -/
def Retained.erased (r : Retained) : Retained :=
  { r with cal := {}, lockEngaged := false, unverified := true, audit := satSucc r.audit }

/-- A write of the calibration store, whole (R174, R178 to R182). -/
def Retained.write (r : Retained) : CalWrite → Retained
  | .zero values cells =>
    { r with cal := { r.cal with z := setZeros r.cal.z values, cellCount := cells }, unverified := true }
  | .span factor => { r with cal := { r.cal with span := factor }, unverified := true }
  | .corner channel factor => { r with cal := { r.cal with k := r.cal.k.set channel factor }, unverified := true }
  | .interval d capacity => { r with cal := { r.cal with interval := d, capacity := capacity }, unverified := true }
  | .lock => { r with lockEngaged := true, unverified := false, audit := satSucc r.audit }
  | .erase => r.erased
  | .startErase => r.erased
  | .flagUnverified => { r with unverified := true }

/-- A commit completes: its values stand, and those of no other (R187). -/
def Retained.complete (r : Retained) : Commit → Retained
  | .bootCount n => { r with bootCount := n }
  | .ticket n => { r with lastTicket := n }
  | .cal w => r.write w

/-- The running commit is taken off the commits that are asked for (R187). -/
def Retained.finished (r : Retained) : Retained := { r with commits := r.commits.drop 1 }

/-- What a reset leaves of the retained store: the running commit is whole or not at all, those behind it are
lost, and the boot count commit of the new start runs (R185, R186, R187). -/
def Retained.afterReset (r : Retained) (commitCompletes : Bool) : Retained :=
  let t := match r.commits.head? with
    | some c => if commitCompletes then r.complete c else r
    | none => r
  { t with commits := [.bootCount ((t.bootCount + 1) % 2 ^ 32)] }

/-- The station state after a reset: OFFLINE by the straps (R171). DESIGN CHOICE: otherwise JOINING already, which R171
gives once the values in force are set (log 42). -/
def stationAfterReset (own : Station) (role : Role) : StationState :=
  if role = .offline ∨ own = 0 then .offline else .joining

/-- The peer table after a reset: every entry UNKNOWN but the own entry, which is LIVE and holds the station's state
(R161, R171). DESIGN CHOICE: the own entry, which is not timed, holds 0 as its time since last heard, and on an OFFLINE
station no reported station state (log 51). -/
def tableAfterReset (own : Station) (station : StationState) : Vector Peer 16 :=
  (Vector.replicate 16 ({} : Peer)).set own
    { state := .live, reportedActive := if station = .offline then none else some false }

/-- RESET: power-on or the reset line (R185). The straps are read; the retained store and the field lines are
kept; everything else is as after a reset. The commands waiting stay, as they come from outside (log 8). -/
def execReset (number : BitVec 4) (role : BitVec 2) (commitCompletes : Bool) (s : State) : Result :=
  let station := stationAfterReset number.toFin (roleOfStraps role)
  .next
    { loader := { station := number.toFin, role := roleOfStraps role }
      retained := s.retained.afterReset commitCompletes
      deck := { lines := s.deck.lines }
      peers := { station := station, table := tableAfterReset number.toFin station }
      pending := s.pending }

/-! ### The loader (R186, R188, R189) -/

/-- The limit on the answer of the configuration memory, in ms (R188). -/
def configByteLimit : Nat := 10

/-- The own entry of the peer table replaced. -/
def PeerMonitor.setPeer (p : PeerMonitor) (n : Station) (e : Peer) : PeerMonitor := { p with table := p.table.set n e }

/-- BOOT_COUNT_COMMIT_DONE: the count stands; the peer monitor records it and the visit table unit reads its
epoch from it; the loader begins to read the image (R186, R91, R161, R188). -/
def execBootCountCommitDone (s : State) : Result :=
  .next (match s.retained.commits.head? with
    | some (.bootCount n) =>
      { s with
        retained := (s.retained.complete (.bootCount n)).finished
        visits := { s.visits with epoch := n % 256 }
        peers := s.peers.setPeer s.own { s.peers.table[s.own] with bootCount := some n }
        loader := { s.loader with phase := .reading, image := [], byteLimit := some configByteLimit } }
    | _ => s)

/-- The first events of the blocks (R188): each block begins as its own reset rule gives. -/
def startEvents (offline : Bool) : List Posted :=
  [.event .firstScan, .event .firstSample, .event .calStartCheck, .event .printerLimitStart] ++
    (if offline then [] else [.event .enterJoining])

/-- The peer monitor with the values in force (R159, R171): the station state is OFFLINE by the straps and otherwise
JOINING, which the own entry of the peer table holds too (R161). What entering JOINING does is ENTER_JOINING (log 42). -/
def State.peersInForce (s : State) : PeerMonitor :=
  if s.offline then { s.peers with station := .offline }
  else { s.peers.setPeer s.own { s.peers.table[s.own] with reportedActive := some false } with station := .joining }

/-- The values in force are handed to every block at once (R188). An OFFLINE station has the sign at SEE-OFFICE from
here on (R53). -/
def State.settle (s : State) (cfg : Settings) (byDefault : Bool) : State :=
  { s with
    cfg := cfg
    loader := { s.loader with phase := .inForce, byteLimit := none, configDefault := byDefault }
    store := { s.store with tariff := cfg.initialRates }
    flashLit := true
    lane := if s.offline then { s.lane with sign := .seeOffice } else s.lane
    peers := s.peersInForce
    posted := s.posted ++ startEvents s.offline }

/-- The image has come whole: its check decides between its values and the defaults (R188). -/
def State.settleImage (s : State) (image : List Byte) : State :=
  if imageCheckAgrees image then s.settle (settingsOfImage image) false else s.settle {} true

/-- CONFIG_BYTE: a byte of the image comes in its time; with the last, the values in force are settled
(R188, R189). -/
def execConfigByte (byte : Byte) (s : State) : Result :=
  .next (if s.loader.phase = .reading then
    let image := s.loader.image ++ [byte]
    let t := { s with loader := { s.loader with image := image, byteLimit := some configByteLimit } }
    if image.length = imageLength then t.settleImage image else t
  else s)

/-- CONFIG_BYTE_TIMEOUT: the memory counts as not answering, and every value is its default (R188). -/
def execConfigByteTimeout (s : State) : Result :=
  .next (if s.loader.phase = .reading then s.settle {} true else s)

/-! ### The first event of each block -/

/-- FIRST_SCAN: the weighing channel begins its first scan (R1, R2, R22). -/
def execFirstScan (s : State) : Result :=
  .next ((s.took .firstScan).whenLive fun t =>
    if t.weigh.select = none then t.beginScan else t)

/-- What the first sample takes for each input; a deck loop that is not fitted is inactive (R25, R27). -/
def State.sampledInputs (s : State) : Vector Bool 14 :=
  Vector.ofFn fun i : Fin 14 =>
    s.deck.lines[i] == s.cfg.inputs[i].activeHigh && (i != Input.deckLoop.index || s.cfg.deckLoopFitted)

/-- The starting state of a barrier unit, its pending slot empty (R50). An OFFLINE station holds the travel timer
stopped. The requested lamp modes stand (R51). -/
def State.startingBarrier (s : State) (e : End) : BarrierUnit :=
  let b := { s.barrier e with lowerPending := false, travel := none, reason := none }
  if s.active? (.upLimit e) && s.active? (.downLimit e) then { b with state := .fault, reason := some .limitConflict }
  else if s.active? (.motorFault e) then { b with state := .fault, reason := some .motorFault }
  else if s.active? (.upLimit e) then { b with state := .up }
  else if s.active? (.downLimit e) then { b with state := .down }
  else { b with state := .rising, travel := if s.offline then none else some s.cfg.travelLimit }

/-- FIRST_SAMPLE: every input is sampled once, and the barrier units take their starting states (R27, R50). -/
def execFirstSample (s : State) : Result :=
  .next ((s.took .firstSample).whenLive fun t =>
    if t.deck.sampled then t
    else
      let u := { t with deck := { t.deck with sampled := true, debounced := t.sampledInputs } }
      let v := { u with deck := { u.deck with armed := u.beamsClear } }
      { v with barrierA := v.startingBarrier .a, barrierB := v.startingBarrier .b })

/-- CAL_START_CHECK: the CELL channels of the map against the calibrated cell count (R174). -/
def execCalStartCheck (s : State) : Result :=
  .next ((s.took .calStartCheck).whenLive fun t =>
    if cellCountOf t.cfg.channelMap = t.retained.cal.cellCount then t
    else if t.retained.lockEngaged then t.askCommit (.cal .startErase)
    else if t.retained.unverified then t
    else t.askCommit (.cal .flagUnverified))

/-- A notice handed to the link controller, which waits where the ROUTINE queue is FULL, in place of one that
waits already (R183). -/
def State.handNotice (s : State) (n : CalNotice) : State :=
  let r := s.place (noticeFrame n)
  { r.1 with cal := { r.1.cal with notice := if r.2 then none else some n } }

/-- The waiting notice is handed again (R183). -/
def State.handWaitingNotice (s : State) : State :=
  match s.cal.notice with
  | some n => s.handNotice n
  | none => s

/-- The link controller begins, and the peer monitor's timers start (R158, R160, R163, R168). -/
def State.beginJoining (s : State) : State :=
  { s with
    link := { s.link with begun := true }
    peers := { s.peers.setPeer s.own { s.peers.table[s.own] with reportedActive := some false } with
      station := .joining
      joinWindow := some s.cfg.joinWindow
      heartbeat := some s.cfg.heartbeat
      ticking := true } }

/-- ENTER_JOINING: the link controller begins, the HELLO is placed and the join window runs; a START-ERASE notice owed
follows it (R158, R160, R183). Once it has been taken, a second one changes nothing (log 10). DESIGN CHOICE: a LOCK or ERASE notice that waits since before JOINING follows it too (log 52), and a
line that is FREE already is offered a frame once the HELLO stands in its queue (log 57). -/
def execEnterJoining (s : State) : Result :=
  .next ((s.took .enterJoining).whenLive fun t =>
    if t.offline || t.link.begun then t
    else ((t.beginJoining.place (helloFrame t)).1).handWaitingNotice)

/-- PRINTER_LIMIT_START: the printer answer limit is started (R140). In READY it is not: there it runs only while an
entry is PRINTING, from the PRINT on (R135, R138). -/
def execPrinterLimitStart (s : State) : Result :=
  .next ((s.took .printerLimitStart).whenLive fun t =>
    if t.tickets.printer = .ready then t
    else { t with tickets := { t.tickets with answerLimit := some t.cfg.printerLimit } })

end Sys2Proof.Machine
end

