-- ==== Sys2Proof/Machine/Deck.lean ====
section
/-! DEFINITION. The deck sensor unit: RAW_INPUT_CHANGE, DEBOUNCE_EXPIRY, READY and CAL_HOLD (chapter 2). -/

namespace Sys2Proof.Machine

/-! ### The debounce filter (R24) -/

/-- The timer of a debounce filter after a raw change: started where the raw state comes to differ from the
debounced state, stopped where it comes back to agree (R24). -/
def filterTimer (debounce : Nat) (raw debounced : Bool) (timer : Timer) : Timer :=
  if raw = debounced then none else some (timer.getD debounce)

/-- RAW_INPUT_CHANGE: the line stands at a level; from the first sample on its filter takes the change (R23 to
R25, R27). -/
def execRawInputChange (i : Input) (level : Bool) (s : State) : Result :=
  .next (
    if s.deck.lines[i.index] = level then s
    else
      let t := { s with deck := { s.deck with lines := s.deck.lines.set i.index level } }
      if t.live && t.deck.sampled && t.filtered i then
        let timer := filterTimer t.cfg.inputs[i.index].debounce (t.raw i) (t.active? i) t.deck.timers[i.index]
        { t with deck := { t.deck with timers := t.deck.timers.set i.index timer } }
      else t)

/-! ### Offers (R35, R37) -/

/-- An approach is offered: the choice is CHOSEN, the last near end is set, and the lane is told (R35). -/
def State.offer (s : State) (near : End) (direction : Direction) : State :=
  ({ s with deck := { s.deck with choice := .chosen near direction, lastNear := some near } }).postLane
    (.laneApproachOffer near direction)

/-- The activation of an approach loop gives an offer while the choice is OPEN, at an end that may be near (R35). -/
def State.approachActivation (s : State) (e : End) : State :=
  match s.deck.choice, s.directionFrom e with
  | .opened, some direction => s.offer e direction
  | _, _ => s

/-- An end that may be near, with its approach loop occupied (R37). -/
def State.waitingAt (s : State) (e : End) : Bool := (s.directionFrom e).isSome && s.active? (.approach e)

/-- The end offered where both are occupied: opposite the last near end, or the road end (R37). -/
def State.turnEnd (s : State) : End := (s.deck.lastNear.map End.other).getD s.cfg.roadEnd

/-- The end that is offered when the choice becomes OPEN (R37). -/
def State.readyEnd (s : State) : Option End :=
  match s.waitingAt .a, s.waitingAt .b with
  | true, true => some s.turnEnd
  | true, false => some .a
  | false, true => some .b
  | false, false => none

/-- The approach loops are tested when the choice has become OPEN (R37). -/
def State.testApproaches (s : State) : State :=
  match s.readyEnd with
  | some e => s.approachActivation e
  | none => s

/-- READY: the choice is OPEN, and the approach loops are tested at once; an OFFLINE station's stays SHUT
(R34, R37). -/
def execReady (s : State) : Result :=
  .next ((s.took .ready).whenLive fun t =>
    if t.offline then t else ({ t with deck := { t.deck with choice := .opened } }).testApproaches)

/-- CAL_HOLD: the choice is SHUT (R34). -/
def execCalHold (s : State) : Result :=
  .next ((s.took .calHold).whenLive fun t =>
    { t with deck := { t.deck with choice := .shut } })

/-! ### Where the events go (R26) -/

/-- Presence is formed anew on a deck loop event; before the start report it is not formed (R27, R31). -/
def State.deckLoopEvent (s : State) : State := if s.deck.reportSent then s.updatePresence else s

/-- An activation is handed to the blocks that own the state it concerns (R26, R29, R35, R38). An activation
that may end a measurement goes to the calibration store too (R177). -/
def State.handActivation (s : State) : Input → State
  | .approach e => s.approachActivation e
  | .safety e => (s.post (.barrierSafetyActivation e)).postLane (.laneSafetyLoopEvent e true)
  | .beam e =>
    (((({ s with deck := { s.deck with armed := false } }).post .windowEmptyBeam).postIf s.takingScans
      (.calInterrupt .beam))).postLane (.laneBeamEvent e true)
  | .deckLoop => (s.deckLoopEvent).postIf s.takingScans (.calInterrupt .deckLoop)
  | .upLimit e => s.post (.upLimitActivation e)
  | .downLimit e => s.post (.downLimitActivation e)
  | .motorFault e => s.post (.motorFaultActivation e)
  | .help => s.postLane .laneHelpPress

/-- A release is handed to the blocks that own the state it concerns (R26, R30); an approach release goes to
the lane as well, whose reversing test reads it (R83). -/
def State.handRelease (s : State) : Input → State
  | .approach e => s.postLane (.nearApproachRelease e)
  | .safety e => (s.post (.barrierSafetyRelease e)).postLane (.laneSafetyLoopEvent e false)
  | .beam e => ({ s with deck := { s.deck with armed := s.beamsClear } }).postLane (.laneBeamEvent e false)
  | .deckLoop => s.deckLoopEvent
  | .upLimit e => s.post (.limitRelease e .up)
  | .downLimit e => s.post (.limitRelease e .down)
  | .motorFault e => s.post (.motorFaultRelease e)
  | .help => s

/-- The debounced state of an input takes its raw state, with its timer stopped (R24). -/
def State.takeRaw (s : State) (i : Input) : State :=
  { s with deck := { s.deck with
      timers := s.deck.timers.set i.index none, debounced := s.deck.debounced.set i.index (s.raw i) } }

/-- DEBOUNCE_EXPIRY: the debounced state takes the raw state, and the activation or release is handed on
(R24, R26). -/
def execDebounceExpiry (i : Input) (s : State) : Result :=
  .next (s.whenLive fun s =>
    if s.deck.timers[i.index].isSome then
      let t := s.takeRaw i
      if t.active? i then t.handActivation i else t.handRelease i
    else s)

end Sys2Proof.Machine
end

