-- ==== Sys2Proof/Machine/Link.lean ====
section
/-! DEFINITION. The link controller: LINE_FREE, FRAME_START_HEARD, ARBITRATION_LOST, READBACK_MISMATCH, DELIVERY
and FRAME_END (chapter 8). -/

namespace Sys2Proof.Machine

/-! ### The line (R144, R145) -/

/-- LINE_FREE: the line is FREE, and a WAITING station starts a frame (R144, R155). -/
def execLineFree (s : State) : Result :=
  .next (s.whenLive fun s =>
    if s.link.tx.isNone then ({ s with link := { s.link with lineFree := true } }).tryStart else s)

/-- FRAME_START_HEARD: another station's frame makes the line BUSY; a station that hears has its start (R144,
R151). -/
def execFrameStartHeard (s : State) : Result :=
  .next (s.whenLive fun s =>
    if s.link.tx.isNone then { s with link := { s.link with lineFree := false, hearing := s.hears } } else s)

/-- ARBITRATION_LOST: the station stops sending and is a receiver of the frame on the line; the attempt count
and the phase pointer stand (R145, R155). -/
def execArbitrationLost (s : State) : Result :=
  .next (s.whenLive fun s =>
    if s.link.tx.isSome then { s with link := { s.link with tx := none, hearing := true } } else s)

/-! ### Departures (R147, R148, R154, R155) -/

/-- A phase pointer moved forward by one, from 15 to 0 (R155). -/
def nextPhase (p : Fin 16) : Fin 16 := p + 1

/-- The frame in transmission leaves the head of its queue, whose attempt count becomes 0; the phase pointer
moves, but for an URGENT frame; the station no longer sends (R147, R148, R155). -/
def LinkState.depart (l : LinkState) (q : QueueName) : LinkState :=
  { l.setQueue q { frames := (l.queue q).frames.drop 1, attempts := 0 } with
    pointer := if q = .urgent then l.pointer else nextPhase l.pointer
    tx := none }

/-- The departure is told to the blocks that may wait for room in the queue (R154). -/
def State.tellDeparture (s : State) : QueueName → State
  | .urgent => s
  | .visit => s.post .visitQueueDeparture
  | .routine => s.post .routineQueueDeparture
  | .bulk => s.post .bulkQueueDeparture

/-- The owner of a dropped frame is told: NOT-DELIVERED for a VISIT-OPEN or VISIT-CLOSE (R106, R148). -/
def State.tellDrop (s : State) (f : Frame) : State :=
  match f.kind, decodeVisitNumber (field f.payload 0 3) with
  | .visitOpen, some n => s.post (.claimOutcome n .notDelivered)
  | .visitClose, some n => s.post (.closeOutcome n .notDelivered)
  | _, _ => s

/-- The attempts after which a frame is dropped (R146, R148). -/
def maxAttempts : Nat := 4

/-- A failed attempt: the frame's attempt count is raised, and at 4 the frame is dropped (R146, R148). -/
def State.failAttempt (s : State) (t : InTransmission) : State :=
  let attempts := (s.link.queue t.queue).attempts + 1
  if attempts < maxAttempts then
    { s with link := { s.link.setQueue t.queue { s.link.queue t.queue with attempts := attempts } with tx := none } }
  else
    ((({ s with link := { s.link.depart t.queue with drops := satSucc s.link.drops } }).tellDrop t.frame)).tellDeparture
      t.queue

/-- READBACK_MISMATCH (R146, R148). -/
def execReadbackMismatch (s : State) : Result :=
  .next (s.whenLive fun s =>
    match s.link.tx with
    | some t => s.failAttempt t
    | none => s)

/-- A frame of a VISIT kind is handed to the visit table unit at its own delivery (R94, R147). -/
def State.handOwnFrame (s : State) (f : Frame) : State :=
  match f.kind with
  | .visitOpen => s.post (.visitOpen s.own f.payload)
  | .visitClose => s.post (.visitClose s.own f.payload)
  | .visitAnnounce => s.post (.visitAnnounce f.payload)
  | _ => s

/-- The frame in transmission is delivered (R147). -/
def State.deliver (s : State) (t : InTransmission) : State :=
  (({ s with link := s.link.depart t.queue }).handOwnFrame t.frame).tellDeparture t.queue

/-- DELIVERY (R147, R154, R155). -/
def execDelivery (s : State) : Result :=
  .next (s.whenLive fun s =>
    match s.link.tx with
    | some t => s.deliver t
    | none => s)

/-! ### Hearing frames (R149, R150) -/

/-- The source of a heard frame: bits 3-0 of its identifier (R142). -/
def heardSource (f : HeardFrame) : Station := Fin.ofNat 16 f.ident.toNat

/-- The kind of a heard frame: bits 7-4 of its identifier; none for 15 (R142). -/
def heardKind (f : HeardFrame) : Option FrameKind := kindOfCode (f.ident.toNat / 16 % 16)

/-- The priority of a heard frame: bits 9-8 of its identifier (R142). -/
def heardPriority (f : HeardFrame) : Nat := f.ident.toNat / 256

/-- What the tests of R149 make of a heard frame. -/
inductive Verdict where
  | uncounted
  | badCheck
  | malformed
  | good (kind : FrameKind)
deriving DecidableEq, Repr

/-- The longest payload a length byte may give (R149, test 2). -/
def maxPayload : Nat := 32

/-- Test 2 of R149 fails: cut off, too long, or the check does not agree. -/
def frameSpoiled (f : HeardFrame) : Bool :=
  f.ending == .cutOff || decide (maxPayload < f.length.toNat) ||
    f.check != crc16 (checkedBytes f.ident f.length f.payload)

/-- Tests 4 to 7 of R149 for a frame whose kind is known. -/
def frameFits (f : HeardFrame) (own : Station) (k : FrameKind) : Bool :=
  heardPriority f == k.queue.priority && !(k.officeOnly && heardSource f != 0) && heardSource f != own &&
    f.length.toNat == k.length && f.payload.length == k.length

/-- The tests of R149 in order; the first that fails settles the frame. -/
def judgeFrame (f : HeardFrame) (own : Station) : Verdict :=
  if f.ending = .aborted then .uncounted
  else if frameSpoiled f then .badCheck
  else
    match heardKind f with
    | none => .malformed
    | some k => if frameFits f own k then .good k else .malformed

/-- The event a good frame gives the block that owns its kind (R150). -/
def ownerEvent (k : FrameKind) (source : Station) (payload : List Byte) : List Posted :=
  match k with
  | .help => []
  | .laneCommand => [laneCommandEvent payload]
  | .visitOpen => [.event (.visitOpen source payload)]
  | .visitClose => [.event (.visitClose source payload)]
  | .visitVoid => [.event (.visitVoid payload)]
  | .visitAnnounce => [.event (.visitAnnounce payload)]
  | .hello => [.event (.hello source payload)]
  | .presence => [.event (.presence source payload)]
  | .timeSet => [.event (.timeSet payload)]
  | .tareSet => [.event (.tareSet payload)]
  | .tareDrop => [.event (.tareDrop payload)]
  | .tariffSet => [.event (.tariffSet payload)]
  | .calNotice => []
  | .ticketCopy => []
  | .laneStatus => []

/-- A good frame is handed to the peer monitor and to its owner; an OFFLINE station hands it to no block
(R150, R158). -/
def State.handFrame (s : State) (k : FrameKind) (f : HeardFrame) : State :=
  if s.offline then s
  else { s with posted := s.posted ++ .event (.peerHeard (heardSource f)) :: ownerEvent k (heardSource f) f.payload }

/-- A frame heard to its end is judged, counted or handed on (R149, R150). -/
def State.takeHeard (s : State) (f : HeardFrame) : State :=
  match judgeFrame f s.own with
  | .uncounted => s
  | .badCheck => { s with link := { s.link with badCheck := satSucc s.link.badCheck } }
  | .malformed => s.countMalformed
  | .good k => s.handFrame k f

/-- FRAME_END: a frame whose start the station heard ends (R149 to R151, R158). -/
def execFrameEnd (f : HeardFrame) (s : State) : Result :=
  .next (s.whenLive fun s =>
    if s.link.hearing then ({ s with link := { s.link with hearing := false } }).takeHeard f else s)

end Sys2Proof.Machine
end

