-- ==== Sys2Proof/Machine/Barrier.lean ====
section
/-! DEFINITION. The barrier units: UP_LIMIT_ACTIVATION to TRAVEL_TIMER_EXPIRY, FLASH_TICK, and what a barrier
unit does with BARRIER-RESET (chapter 3). The row BARRIER_RESET stands with the office commands. -/

namespace Sys2Proof.Machine

/-- `f` where the barrier units take events (R50). -/
def State.whenBarriers (s : State) (f : State → State) : State := if s.barriersWork then f s else s

/-- UP_LIMIT_ACTIVATION (R44, R47). -/
def execUpLimitActivation (e : End) (s : State) : Result :=
  .next ((s.took (.upLimitActivation e)).whenBarriers fun s => s.takeUpLimit e)

/-- DOWN_LIMIT_ACTIVATION (R45, R47). -/
def execDownLimitActivation (e : End) (s : State) : Result :=
  .next ((s.took (.downLimitActivation e)).whenBarriers fun s => s.takeDownLimit e)

/-- LIMIT_RELEASE: the unit takes it and changes nothing (R47). -/
def execLimitRelease (e : End) (l : Limit) (s : State) : Result :=
  .next (s.took (.limitRelease e l))

/-- The safety loop's activation reverses a falling arm, whose LOWER stays pending (R45). -/
def State.takeSafetyActivation (s : State) (e : End) : State :=
  if (s.barrier e).state = .falling then s.startRise e true else s

/-- The safety loop's release starts the fall of a raised arm with a LOWER pending (R44), unless the loop reads
occupied again: a fall is begun only with the loop clear (R45). -/
def State.takeSafetyRelease (s : State) (e : End) : State :=
  if (s.barrier e).state = .up ∧ (s.barrier e).lowerPending ∧ s.active? (.safety e) = false then s.startFall e else s

/-- BARRIER_SAFETY_ACTIVATION (R43 to R45). -/
def execBarrierSafetyActivation (e : End) (s : State) : Result :=
  .next ((s.took (.barrierSafetyActivation e)).whenBarriers fun s => s.takeSafetyActivation e)

/-- BARRIER_SAFETY_RELEASE (R43 to R45). -/
def execBarrierSafetyRelease (e : End) (s : State) : Result :=
  .next ((s.took (.barrierSafetyRelease e)).whenBarriers fun s => s.takeSafetyRelease e)

/-- MOTOR_FAULT_ACTIVATION: the barrier enters FAULT (R48). -/
def execMotorFaultActivation (e : End) (s : State) : Result :=
  .next ((s.took (.motorFaultActivation e)).whenBarriers fun s => s.enterFault e .motorFault)

/-- MOTOR_FAULT_RELEASE: nothing but the debounced state changes (R48). -/
def execMotorFaultRelease (e : End) (s : State) : Result :=
  .next (s.took (.motorFaultRelease e))

/-- The travel timer of an end expires: TRAVEL-TIMEOUT where the arm travels (R46). -/
def State.travelExpiry (s : State) (e : End) : State :=
  if (s.barrier e).travel.isSome ∧ ((s.barrier e).state = .rising ∨ (s.barrier e).state = .falling) then
    s.enterFault e .travelTimeout
  else s

/-- TRAVEL_TIMER_EXPIRY (R46, R48). -/
def execTravelTimerExpiry (e : End) (s : State) : Result :=
  .next (s.whenBarriers fun s => s.travelExpiry e)

/-- BARRIER-RESET as a barrier unit takes it, with its answer DONE or REFUSED (R49). DESIGN CHOICE: where the
motor-fault input and both limits are active, the reason becomes MOTOR-FAULT (log 44). -/
def State.resetBarrier (s : State) (e : End) : State × CommandResult :=
  let b := s.barrier e
  if b.state ≠ .fault then (s, .refused)
  else if s.active? (.motorFault e) then (s.setBarrier e { b with reason := some .motorFault }, .refused)
  else if s.active? (.upLimit e) && s.active? (.downLimit e) then
    (s.setBarrier e { b with reason := some .limitConflict }, .refused)
  else if s.active? (.upLimit e) then (s.setBarrier e { b with state := .up, reason := none }, .done)
  else if s.active? (.downLimit e) then (s.setBarrier e { b with state := .down, reason := none }, .done)
  else (s.setBarrier e { b with state := .rising, reason := none, travel := some s.cfg.travelLimit }, .done)

/-- FLASH_TICK: the half of the flash rhythm's second changes (R51; log 31). -/
def execFlashTick (s : State) : Result :=
  .next (s.whenLive fun s => { s with flashLit := !s.flashLit })

end Sys2Proof.Machine
end

