-- ==== Sys2Proof/Machine/Calibration.lean ====
section
/-! DEFINITION. The calibration store: the service requests, CAL_SCAN, CAL_INTERRUPT, CAL_COMMIT_DONE and
ROUTINE_QUEUE_DEPARTURE (chapter 10). CAL_START_CHECK stands with start-up. -/

namespace Sys2Proof.Machine

/-! ### Reads (R175, R176) -/

/-- CAL_READ (R176). -/
def execCalRead (s : State) : Result :=
  .next (s.whenLive fun s => s.answer .ok (calReadContent s.retained))

/-- STATUS (R176). -/
def execStatus (s : State) : Result :=
  .next (s.whenLive fun s => s.answer .ok (statusContent s))

/-! ### Requests in hand (R175) -/

/-- The tests of R175 that come before a request's own: BUSY while a request is in hand, then LOCKED where the
lock holds off the request. -/
def State.unlessHeld (s : State) (lockable : Bool) (f : State → State) : State :=
  if s.cal.inHand.isSome then s.answer .busy
  else if lockable && s.retained.lockEngaged then s.answer .locked
  else f s

/-- A request is in hand, with its commit running (R175). -/
def State.commitRequest (s : State) (r : CalRequest) (w : CalWrite) : State :=
  ({ s with cal := { s.cal with inHand := some { request := r, stage := .committing } } }).askCommit (.cal w)

/-- A scan or an activation given for a measurement. -/
def isMeasurementEvent : Posted → Bool
  | .event (.calScan _) => true
  | .event (.calInterrupt _) => true
  | _ => false

/-- A measurement starts: it takes the scans that end from now on, and the activations (R177). -/
def State.startMeasuring (s : State) (r : CalRequest) : State :=
  { s with
    cal := { s.cal with inHand := some { request := r, stage := .measuring } }
    posted := s.posted.filter (fun p => !isMeasurementEvent p) }

/-- The hold is asked for; on an OFFLINE station it counts as granted (R177). -/
def State.askHold (s : State) (r : CalRequest) : State :=
  if s.offline then s.startMeasuring r
  else ({ s with cal := { s.cal with inHand := some { request := r, stage := .awaitingHold } } }).post .calHoldRequest

/-- The lane is told that the measurement has ended, and the answer is sent (R177 to R179). -/
def State.endMeasurement (s : State) (code : ServiceCode) : State :=
  (({ s with cal := { s.cal with inHand := none } }).postIf (!s.offline) .calHoldRelease).answer code

/-- The deck loop is occupied or a beam broken, so that no CAL-ZERO is started (R177). -/
def State.deckDisturbed (s : State) : Bool := !s.deckLoopClear || !s.beamsClear

/-- CAL_ZERO (R175, R177). -/
def execCalZero (s : State) : Result :=
  .next (s.whenLive fun s => s.unlessHeld true fun s =>
    if s.deckDisturbed then s.answer .unstable else s.askHold .zero)

/-- A test mass in its range (R179). -/
def massOk (mass : Nat) : Bool := 1 ≤ mass && mass ≤ 80000

/-- CAL_SPAN (R175, R179). -/
def execCalSpan (mass : BitVec 24) (s : State) : Result :=
  .next (s.whenLive fun s => s.unlessHeld true fun s =>
    if massOk mass.toNat then s.askHold (.span mass.toNat) else s.answer .range)

/-- The channel of a CAL-CORNER, where it is CELL and the factor lies in its range (R180). -/
def cornerChannel (map : BitVec 8) (channel : Byte) (factor : Nat) : Option Channel :=
  (channelOfByte channel).filter (fun c => map.getLsbD c.val && 49152 ≤ factor && factor ≤ 81920)

/-- CAL_CORNER (R175, R180). -/
def execCalCorner (channel : Byte) (factor : BitVec 24) (s : State) : Result :=
  .next (s.whenLive fun s => s.unlessHeld true fun s =>
    match cornerChannel s.cfg.channelMap channel factor.toNat with
    | some c => s.commitRequest .corner (.corner c factor.toNat)
    | none => s.answer .range)

/-- The interval and the capacity lie in their ranges (R172, R180). -/
def intervalOk (d capacity : Nat) : Bool :=
  (d == 5 || d == 10 || d == 20 || d == 50) && 10000 ≤ capacity && capacity ≤ 80000 && capacity % d == 0 &&
    capacity / d ≤ 10000

/-- CAL_INTERVAL (R175, R180). -/
def execCalInterval (interval : Byte) (capacity : BitVec 24) (s : State) : Result :=
  .next (s.whenLive fun s => s.unlessHeld true fun s =>
    if intervalOk interval.toNat capacity.toNat then
      s.commitRequest .interval (.interval interval.toNat capacity.toNat)
    else s.answer .range)

/-- CAL_LOCK: RANGE where the calibrated cell count is not that of the map in force (R175, R182). -/
def execCalLock (s : State) : Result :=
  .next (s.whenLive fun s => s.unlessHeld true fun s =>
    if s.retained.cal.cellCount = cellCountOf s.cfg.channelMap then s.commitRequest .lock .lock else s.answer .range)

/-- CAL_ERASE: taken with the lock in either state (R175, R182). -/
def execCalErase (s : State) : Result :=
  .next (s.whenLive fun s => s.unlessHeld false fun s => s.commitRequest .erase .erase)

/-- BAD_SERVICE_REQUEST: BUSY while a request is in hand, otherwise RANGE (R175). -/
def execBadServiceRequest (s : State) : Result :=
  .next (s.whenLive fun s => s.unlessHeld false fun s => s.answer .range)

/-! ### The measurement (R177 to R179) -/

/-- The scans of a measurement (R178, R179). -/
def measuredScans : Nat := 16

/-- A GOOD scan added to the running sums, and counted (R177, R179). -/
def CalInHand.add (h : CalInHand) (counts : List (Channel × Int)) (sum : Int) : CalInHand :=
  { h with
    sums := counts.foldl (fun v p => v.set p.1 (v[p.1] + p.2)) h.sums
    sumA := h.sumA + sum
    scans := h.scans + 1 }

/-- The new cell zeros: each CELL channel's running sum divided by 16, rounded half away from zero (R178). -/
def newZeros (map : BitVec 8) (sums : Vector Int 8) : List (Channel × Int) :=
  (scanList map).map (fun c => (c, roundHalfAway sums[c] measuredScans))

/-- The least A_avg of a CAL-SPAN (R179). -/
def minAverage : Int := 10000

/-- The new span factor, where A_avg and the factor lie in their ranges (R179). -/
def newSpan (mass : Nat) (sumA : Int) : Option Nat :=
  let average := roundHalfAway sumA measuredScans
  if average < minAverage then none
  else
    let factor := roundHalfUp (mass * 1000 * 65536) average.toNat
    if 1 ≤ factor ∧ factor ≤ 16777215 then some factor else none

/-- The measurement is complete: its write is asked for, or it ends with RANGE (R178, R179). -/
def State.completeMeasurement (s : State) (h : CalInHand) : State :=
  let t := { s with cal := { s.cal with inHand := some { h with stage := .committing } } }
  match h.request with
  | .span mass =>
    match newSpan mass h.sumA with
    | some factor => t.askCommit (.cal (.span factor))
    | none => t.endMeasurement .range
  | _ => t.askCommit (.cal (.zero (newZeros s.cfg.channelMap h.sums) (cellCountOf s.cfg.channelMap)))

/-- A measurement takes a scan: a CELL-FAULT ends it, the sixteenth GOOD scan completes it (R177 to R179). -/
def State.measureTakes (s : State) (h : CalInHand) : CalSample → State
  | .cellFault => s.endMeasurement .cellFault
  | .good counts sum =>
    let g := h.add counts sum
    if g.scans = measuredScans then s.completeMeasurement g
    else { s with cal := { s.cal with inHand := some g } }

/-- The measurement that takes scans, where one runs (R177, R178). -/
def CalState.measurement (c : CalState) : Option CalInHand := c.inHand.filter (fun h => h.stage == .measuring)

/-- CAL_SCAN (R177 to R179). -/
def execCalScan (sample : CalSample) (s : State) : Result :=
  .next ((s.took (.calScan sample)).whenLive fun t =>
    match t.cal.measurement with
    | some h => t.measureTakes h sample
    | none => t)

/-- The activation ends the measurement: a beam either, the deck loop a CAL-ZERO only (R177, R179). -/
def breaks (cause : CalBreak) (r : CalRequest) : Bool :=
  match cause, r with
  | .beam, _ => true
  | .deckLoop, .span _ => false
  | .deckLoop, _ => true

/-- CAL_INTERRUPT (R177, R179). -/
def execCalInterrupt (cause : CalBreak) (s : State) : Result :=
  .next ((s.took (.calInterrupt cause)).whenLive fun t =>
    match t.cal.measurement with
    | some h => if breaks cause h.request then t.endMeasurement .unstable else t
    | none => t)

/-! ### The completion of a commit (R178 to R183) -/

/-- What a completed write does to Z, the zero state and the window (R21, R178 to R182). -/
def WeighState.afterWrite (w : WeighState) : CalWrite → WeighState
  | .zero _ _ => { w with zero := 0, zeroSet := true, window := [] }
  | .span _ => { w with window := [] }
  | .corner _ _ => { w with window := [] }
  | .interval _ _ => { w with zero := 0, zeroSet := false, window := [] }
  | .lock => w
  | .erase => { w with zero := 0, zeroSet := false, window := [] }
  | .startErase => { w with zero := 0, zeroSet := false, window := [] }
  | .flagUnverified => w

/-- The event of the CAL-NOTICE that a write owes (R174, R182, R183). -/
def CalWrite.notice : CalWrite → Option NoticeEvent
  | .lock => some .lock
  | .erase => some .erase
  | .startErase => some .startErase
  | _ => none

/-- A CAL-NOTICE owed is handed to the link controller, or waits (R183). -/
def State.oweNotice (s : State) : Option NoticeEvent → State
  | none => s
  | some event => s.handNotice ⟨event, s.retained.lockEngaged, s.retained.unverified, s.retained.audit⟩

/-- The write is the one that the request in hand asked for, and not the start check's (R174, R175). -/
def CalWrite.isRequested : CalWrite → Bool
  | .startErase => false
  | .flagUnverified => false
  | _ => true

/-- The write ends a measurement, whose lane hold ends with it (R178, R179). -/
def CalWrite.isMeasured : CalWrite → Bool
  | .zero _ _ => true
  | .span _ => true
  | _ => false

/-- The end of the request in hand: the lane is told where the write ends a measurement, and OK is sent
(R178 to R182). -/
def State.endRequest (s : State) (w : CalWrite) : State :=
  if w.isRequested then
    if w.isMeasured then s.endMeasurement .ok
    else ({ s with cal := { s.cal with inHand := none } }).answer .ok
  else s

/-- A write that has completed is applied in the order of R181: its values, the weighing channel, the notice,
the answer. -/
def State.applyWrite (s : State) (w : CalWrite) : State :=
  (({ s with
      retained := (s.retained.write w).finished
      weigh := s.weigh.afterWrite w }).oweNotice w.notice).endRequest w

/-- CAL_COMMIT_DONE: the running commit of the calibration store completes (R181, R187). -/
def execCalCommitDone (s : State) : Result :=
  .next (s.whenLive fun s =>
    match s.retained.commits.head? with
    | some (.cal w) => s.applyWrite w
    | _ => s)

/-- ROUTINE_QUEUE_DEPARTURE: a waiting notice is handed again (R154, R183). -/
def execRoutineQueueDeparture (s : State) : Result :=
  .next ((s.took .routineQueueDeparture).whenLive fun t => t.handWaitingNotice)

end Sys2Proof.Machine
end

