-- ==== Sys2Proof/Machine/Tickets.lean ====
section
/-! DEFINITION. The ticket unit: ISSUE, ISSUE_WITHDRAW, TICKET_COMMIT_DONE, BULK_QUEUE_DEPARTURE, the printer's
answers and its answer limit, and a reprint (chapter 7). PRINTER_LIMIT_START stands with start-up. -/

namespace Sys2Proof.Machine

/-! ### Printing (R133, R135) -/

/-- The first entry of a queue that satisfies `p`, changed by `f`. -/
def changeFirst (p : TicketEntry → Bool) (f : TicketEntry → TicketEntry) : List TicketEntry → List TicketEntry
  | [] => []
  | e :: es => if p e then f e :: es else e :: changeFirst p f es

/-- The entry is QUEUED. -/
def TicketEntry.isQueued (e : TicketEntry) : Bool := e.printState == .queued

/-- The entry is PRINTING. -/
def TicketEntry.isPrinting (e : TicketEntry) : Bool := e.printState == .printing

/-- The entry is both PRINTED and copy-placed, and leaves (R133). -/
def TicketEntry.isDone (e : TicketEntry) : Bool := e.printState == .printed && e.copyPlaced

/-- The print state of an entry set. -/
def TicketEntry.to (e : TicketEntry) (p : PrintState) : TicketEntry := { e with printState := p }

/-- The answer limit is started with its full value (R135 to R137). -/
def State.startAnswerLimit (s : State) : State :=
  { s with tickets := { s.tickets with answerLimit := some s.cfg.printerLimit } }

/-- The answer limit is stopped. -/
def State.stopAnswerLimit (s : State) : State := { s with tickets := { s.tickets with answerLimit := none } }

/-- The PRINTING entry takes another print state (R136). -/
def State.endPrinting (s : State) (p : PrintState) : State :=
  { s with tickets := { s.tickets with
      queue := changeFirst TicketEntry.isPrinting (fun e => e.to p) s.tickets.queue } }

/-- PRINT is sent for the oldest QUEUED entry, where the printer is READY and no entry is PRINTING (R135). -/
def State.tryPrint (s : State) : State :=
  if s.tickets.printer == .ready && !s.tickets.isPrinting then
    match s.tickets.queue.find? TicketEntry.isQueued with
    | none => s
    | some e =>
      (({ s with tickets := { s.tickets with
          queue := changeFirst TicketEntry.isQueued (fun e => e.to .printing) s.tickets.queue } }).sendPrinter
        (.print e.ticket)).startAnswerLimit
  else s

/-! ### Copies, departures and the work of an issue (R131, R133, R134) -/

/-- The copy of the oldest entry not copy-placed is handed for the BULK queue (R134). -/
def State.placeOldestCopy (s : State) : State :=
  match s.tickets.queue.find? (fun e => !e.copyPlaced) with
  | none => s
  | some e =>
    let r := s.place (ticketCopyFrame e.ticket)
    if r.2 then
      { r.1 with tickets := { r.1.tickets with
          queue := changeFirst (fun e => !e.copyPlaced) (fun e => { e with copyPlaced := true }) r.1.tickets.queue } }
    else r.1

/-- A record enters the queue at the tail as QUEUED, and its copy is placed where no older one waits (R131,
R134, R139). -/
def State.enterQueue (s : State) (t : TicketRecord) : State :=
  let u := { s with tickets := { s.tickets with queue := s.tickets.queue ++ [{ ticket := t }] } }
  if s.tickets.queue.all (·.copyPlaced) then u.placeOldestCopy else u

/-- The most entries of the ticket queue (R133). -/
def ticketPlaces : Nat := 4

/-- The issue in the slot is worked once: refused at the last number, or numbered, built and its number
committed; nothing while the queue has no free place or a commit of it runs (R131). -/
def State.workOnce (s : State) : State :=
  match s.tickets.slot with
  | none => s
  | some r =>
    if s.tickets.committing.isSome || decide (ticketPlaces ≤ s.tickets.placesTaken) then s
    else if maxTicket ≤ s.retained.lastTicket then
      ({ s with tickets := { s.tickets with slot := s.tickets.waiting, waiting := none } }).post
        (.ticketAnswer r.visit .refused)
    else
      ({ s with tickets := { s.tickets with
          committing := some (newTicket (s.retained.lastTicket + 1) s.own s.retained.unverified r) } }).askCommit
        (.ticket (s.retained.lastTicket + 1))

/-- The issue in the slot is worked, and the one that a refusal moves into the slot after it (R131). -/
def State.workIssue (s : State) : State := s.workOnce.workOnce

/-- Entries that are PRINTED and copy-placed leave the head of the queue, and a freed place lets the issue in
the slot be worked (R133). -/
def State.leaveQueue (s : State) : State :=
  ({ s with tickets := { s.tickets with
      queue := s.tickets.queue.dropWhile TicketEntry.isDone } }).workIssue

/-! ### Issue (R130, R131) -/

/-- ISSUE: taken into the slot, taken as the issue that is there, or held as the waiting request (R130). -/
def execIssue (request : IssueRequest) (s : State) : Result :=
  .next ((s.took (.issue request)).whenLive fun t =>
    match t.tickets.slot with
    | none => ({ t with tickets := { t.tickets with slot := some request } }).workIssue
    | some r =>
      if r.visit = request.visit then t
      else { t with tickets := { t.tickets with waiting := some request } })

/-- ISSUE_WITHDRAW: the waiting request of a visit is withdrawn; an issue in the slot is not (R130). -/
def execIssueWithdraw (number : VisitNumber) (s : State) : Result :=
  .next ((s.took (.issueWithdraw number)).whenLive fun t =>
    if (t.tickets.waiting.map (·.visit)) = some number then { t with tickets := { t.tickets with waiting := none } }
    else t)

/-- The ticket whose number was committed enters the queue, becomes the last ticket record, and is answered
QUEUED; a waiting request moves into the slot (R131). -/
def State.ticketCommitted (s : State) (t : TicketRecord) : State :=
  let u := s.enterQueue t
  ({ u with tickets := { u.tickets with
      committing := none, last := some t, slot := u.tickets.waiting, waiting := none } }).post
    (.ticketAnswer t.visit (.queued t.number))

/-- TICKET_COMMIT_DONE: the running commit of a ticket number completes (R131, R187). -/
def execTicketCommitDone (s : State) : Result :=
  .next (s.whenLive fun s =>
    match s.retained.commits.head? with
    | some (.ticket n) =>
      let t := { s with retained := { s.retained with lastTicket := n, commits := s.retained.commits.drop 1 } }
      match t.tickets.committing with
      | none => t
      | some r => ((t.ticketCommitted r).tryPrint).workIssue
    | _ => s)

/-- BULK_QUEUE_DEPARTURE: the copy of the oldest entry not copy-placed is placed (R134, R154). -/
def execBulkQueueDeparture (s : State) : Result :=
  .next ((s.took .bulkQueueDeparture).whenLive fun t => t.placeOldestCopy.leaveQueue)

/-! ### The printer's answers (R136 to R138) -/

/-- The printer state set; a change is told to the lane (R135). -/
def State.setPrinter (s : State) (p : PrinterState) : State :=
  if s.tickets.printer = p then s
  else ({ s with tickets := { s.tickets with printer := p } }).post (.lanePrinterState p)

/-- A change to READY: the answer limit is stopped and the oldest QUEUED entry printed (R137). -/
def State.printerToReady (s : State) : State := (s.setPrinter .ready).stopAnswerLimit.tryPrint

/-- A failed print: the entry is QUEUED again, the printer state is the answer, the limit starts again (R136). -/
def State.printFailed (s : State) (p : PrinterState) : State :=
  ((s.endPrinting .queued).setPrinter p).startAnswerLimit

/-- PRINTER_READY (R136 to R138). -/
def execPrinterReady (s : State) : Result :=
  .next (s.whenLive fun s => if s.tickets.printer = .ready then s else s.printerToReady)

/-- PRINTER_DONE (R136 to R138). -/
def execPrinterDone (s : State) : Result :=
  .next (s.whenLive fun s =>
    match s.tickets.printer with
    | .ready => if s.tickets.isPrinting then ((s.endPrinting .printed).stopAnswerLimit.tryPrint).leaveQueue else s
    | .absent => s.printerToReady
    | .paperOut => s
    | .fault => s)

/-- PRINTER_BUSY (R136 to R138). -/
def execPrinterBusy (s : State) : Result :=
  .next (s.whenLive fun s =>
    match s.tickets.printer with
    | .ready => if s.tickets.isPrinting then s.startAnswerLimit else s
    | .absent => s.printerToReady
    | .paperOut => s.startAnswerLimit
    | .fault => s.startAnswerLimit)

/-- PAPER-OUT or FAULT as the printer answers it: in READY the limit starts, with a print in hand failed;
otherwise the state is the answer and the limit runs on (R136 to R138). -/
def State.printerTrouble (s : State) (p : PrinterState) : State :=
  if s.tickets.printer = .ready then
    if s.tickets.isPrinting then s.printFailed p else (s.setPrinter p).startAnswerLimit
  else s.setPrinter p

/-- PRINTER_PAPER_OUT (R136 to R138). -/
def execPrinterPaperOut (s : State) : Result := .next (s.whenLive fun s => s.printerTrouble .paperOut)

/-- PRINTER_FAULT (R136 to R138). -/
def execPrinterFault (s : State) : Result := .next (s.whenLive fun s => s.printerTrouble .fault)

/-- PRINTER_ANSWER_LIMIT_EXPIRY: a print in hand fails with FAULT; in ABSENT, PAPER-OUT and FAULT, STATUS-ASK
is sent and the limit starts again (R136, R137). -/
def execPrinterAnswerLimitExpiry (s : State) : Result :=
  .next (s.whenLive fun s =>
    if s.tickets.answerLimit.isNone then s
    else if s.tickets.printer = .ready then
      if s.tickets.isPrinting then s.printFailed .fault else s
    else (s.sendPrinter .statusAsk).startAnswerLimit)

/-! ### A reprint (R139) -/

/-- The last ticket is queued again, with the ticket unit's answer (R139). -/
def State.reprint (s : State) : State × CommandResult :=
  match s.tickets.last with
  | none => (s, .refused)
  | some t =>
    if ticketPlaces ≤ s.tickets.placesTaken then (s, .refused)
    else ((s.enterQueue t.asReprint).tryPrint, .done)

end Sys2Proof.Machine
end

