-- ==== Sys2Proof/Machine/Store.lean ====
section
/-! DEFINITION. The tare and tariff store: TARE_SET, TARE_DROP, TARIFF_SET, CATEGORY_RESOLUTION,
CLOSED_QUESTION and KIND_REQUEST (6.1 to 6.3). -/

namespace Sys2Proof.Machine

/-- The blocks are handed the yard's frames: from the start of JOINING on, and never on an OFFLINE station
(R127, R112, R158). -/
def State.takesYard (s : State) : Bool := s.live && s.link.begun && !s.offline

/-- `f` where the blocks are handed the yard's frames. -/
def State.whenYard (s : State) (f : State → State) : State := if s.takesYard then f s else s

/-- The most stored tares a table holds (R113, R114). -/
def maxTares : Nat := 64

/-- The record of a token (R114, R117). -/
def TareStore.find (t : TareStore) (token : Token) : Option TareRecord := t.tares.find? (fun r => r.token == token)

/-- The table without a token's record, the rest in their order (R115). -/
def TareStore.drop (t : TareStore) (token : Token) : TareStore := { t with tares := t.tares.filter (fun r => r.token != token) }

/-- A record at the tail, in place of the one that has its token, or of the head of a full table (R114). -/
def TareStore.store (t : TareStore) (r : TareRecord) : TareStore :=
  if (t.find r.token).isSome then { t with tares := (t.drop r.token).tares ++ [r] }
  else if t.tares.length < maxTares then { t with tares := t.tares ++ [r] }
  else { t with tares := t.tares.drop 1 ++ [r] }

/-- A number on some bytes; none for the form of absence (R190). -/
def decodeOptional (bs : List Byte) : Option Nat := if bs = List.replicate bs.length 0xFF#8 then none else some (fromBe bs)

/-- A default category: present in 0 to 15, or absent; none where out of range (R114). -/
def decodeOptCategory (b : Byte) : Option (Option Category) :=
  if b = 0xFF#8 then some none else (decodeCategory b).map some

/-- The record a TARE-SET payload spells, its tare clamped; none where it fails the check (R114). -/
def decodeTareSet (payload : List Byte) : Option TareRecord :=
  match payload.length == 14, decodeToken (field payload 0 8), decodeOptional (field payload 8 3),
      decodeOptCategory (byteAt payload 13) with
  | true, some token, some tare, some category =>
    some { token, tare := min tare maxTare, expiry := decodeOptional (field payload 11 2), category }
  | _, _, _, _ => none

/-- The category and the entry a TARIFF-SET payload spells, its rate clamped; none where it fails the check
(R119). -/
def decodeTariffSet (payload : List Byte) : Option (Category × Option Nat) :=
  match payload.length == 4, decodeCategory (byteAt payload 0) with
  | true, some c => some (c, (decodeOptional (field payload 1 3)).map (fun r => min r maxRate))
  | _, _ => none

/-- TARE_SET (R114). -/
def execTareSet (payload : List Byte) (s : State) : Result :=
  .next ((s.took (.tareSet payload)).whenYard fun t =>
    match decodeTareSet payload with
    | some r => { t with store := t.store.store r }
    | none => t.countMalformed)

/-- The token a TARE-DROP payload spells (R115). -/
def decodeTareDrop (payload : List Byte) : Option Token := if payload.length = 8 then decodeToken payload else none

/-- TARE_DROP (R115). -/
def execTareDrop (payload : List Byte) (s : State) : Result :=
  .next ((s.took (.tareDrop payload)).whenYard fun t =>
    match decodeTareDrop payload with
    | some token => { t with store := t.store.drop token }
    | none => t.countMalformed)

/-- TARIFF_SET (R119). -/
def execTariffSet (payload : List Byte) (s : State) : Result :=
  .next ((s.took (.tariffSet payload)).whenYard fun t =>
    match decodeTariffSet payload with
    | some (c, rate) => { t with store := { t.store with tariff := t.store.tariff.set c rate } }
    | none => t.countMalformed)

/-! ### Requests of the lane, answered at once (R117, R120, R121) -/

/-- What a lookup at entry finds: the record, where it is not expired (R116, R117). -/
def TareStore.unexpired (t : TareStore) (clock : Option DepotTime) (token : Token) : Option TareRecord :=
  match t.find token with
  | some r => if r.expired clock then none else some r
  | none => none

/-- A lookup at entry moves an unexpired record to the tail (R117). -/
def TareStore.lookedUp (t : TareStore) (clock : Option DepotTime) (token : Token) : TareStore :=
  match t.unexpired clock token with
  | some r => { t with tares := (t.drop token).tares ++ [r] }
  | none => t

/-- The category of R120, and the table after its lookup, which is made where the reader gave none. -/
def State.resolveCategory (s : State) (token : Token) (reader : Option Category) : State × Category :=
  match reader with
  | some c => ({ s with answers := { s.answers with category := some c } }, c)
  | none =>
    let c := ((s.store.unexpired s.peers.clock token).bind (·.category)).getD 0
    ({ s with
        store := s.store.lookedUp s.peers.clock token
        answers := { s.answers with category := some c } }, c)

/-- The category is CLOSED in the tariff table as it stands (R118, R120). -/
def State.isClosed (s : State) (c : Category) : Bool := s.store.tariff[c].isNone

/-- The closed question, answered (R120). -/
def State.askClosed (s : State) (c : Category) : State :=
  { s with answers := { s.answers with closed := some (s.isClosed c) } }

/-- The answer to a kind request (R121). -/
def State.kindAnswer (s : State) (token : Token) (c : Category) : KindAnswer :=
  match s.store.tariff[c] with
  | none => .closed
  | some rate =>
    match s.cfg.singlePass, s.store.unexpired s.peers.clock token with
    | true, some r => .given .storedTare rate (some r.tare)
    | _, _ => .given .twoPass rate none

/-- The kind request: its answer, and the lookup it makes unless the category is CLOSED (R121). -/
def State.requestKind (s : State) (token : Token) (c : Category) : State :=
  let t := { s with answers := { s.answers with kind := some (s.kindAnswer token c) } }
  if s.isClosed c then t else { t with store := t.store.lookedUp t.peers.clock token }

/-- CATEGORY_RESOLUTION (R120). -/
def execCategoryResolution (token : Token) (reader : Option Category) (s : State) : Result :=
  .next (s.whenLane fun s => (s.resolveCategory token reader).1)

/-- CLOSED_QUESTION (R120). -/
def execClosedQuestion (c : Category) (s : State) : Result :=
  .next (s.whenLane fun s => s.askClosed c)

/-- KIND_REQUEST (R121). -/
def execKindRequest (token : Token) (c : Category) (s : State) : Result :=
  .next (s.whenLane fun s => s.requestKind token c)

end Sys2Proof.Machine
end

