-- ==== Sys2Proof/Machine/Visits.lean ====
section
/-! DEFINITION. The visit table unit: VISIT_OPEN to CURSOR_ADVANCE (chapter 5, and the announce cursor of
R164 to R167). -/

namespace Sys2Proof.Machine

/-! ### The visit table (R93, R109) -/

/-- The most visits a table holds (R93, R100). -/
def maxVisits : Nat := 96

/-- A visit of this number is in the table. -/
def VisitState.hasNumber (v : VisitState) (n : VisitNumber) : Bool := v.table.any (fun r => r.number == n)

/-- A visit with this token is in the table. -/
def VisitState.hasToken (v : VisitState) (t : Token) : Bool := v.table.any (fun r => r.claim.token == t)

/-- The visit whose token equals a given token (R109). -/
def VisitState.find (v : VisitState) (t : Token) : Option VisitRecord := v.table.find? (fun r => r.claim.token == t)

/-- A visit added at the tail (R93). -/
def VisitState.add (v : VisitState) (r : VisitRecord) : VisitState := { v with table := v.table ++ [r] }

/-! ### The announce cursor (R164 to R167) -/

/-- The cursor after the tail is passed, or not: the walk ends there, and the joiner set is emptied (R166). -/
def Cursor.within (c : Cursor) (length : Nat) : Cursor := if c.position < length then c else {}

/-- The cursor moved to the next visit of a table of this length (R166). -/
def Cursor.moved (c : Cursor) (length : Nat) : Cursor :=
  ({ c with position := c.position + 1, waiting := none } : Cursor).within length

/-- A removal at `i` from a table that then has `length` visits, as the cursor takes it (R167). -/
def Cursor.afterRemoval (c : Cursor) (i length : Nat) : Cursor :=
  if !c.walking then c
  else if i < c.position then { c with position := c.position - 1 }
  else if i = c.position then ({ c with waiting := none } : Cursor).within length
  else c

/-- The next step of a walk is its own event, given once (log 36). -/
def State.postAdvance (s : State) : State :=
  s.postIf (s.visits.cursor.walking && !s.posted.contains (.event .cursorAdvance)) .cursorAdvance

/-- The cursor is moved to the next visit, and walks on (R166). -/
def State.moveCursor (s : State) : State :=
  ({ s with visits := { s.visits with cursor := s.visits.cursor.moved s.visits.table.length } }).postAdvance

/-! ### Removals (R97, R99, R101, R167) -/

/-- A visit is removed, the cursor takes the removal, and the lane is told (R101, R167). -/
def State.removeVisit (s : State) (n : VisitNumber) : State :=
  let i := s.visits.table.findIdx (fun r => r.number == n)
  let table := s.visits.table.eraseIdx i
  let paused := s.visits.cursor.waiting.isSome
  let t := { s with visits := { s.visits with
    table := table, cursor := s.visits.cursor.afterRemoval i table.length } }
  (if paused && t.visits.cursor.waiting.isNone then t.postAdvance else t).post (.removalReport n)

/-! ### The four visit frames (R94 to R100) -/

/-- The outcome of a VISIT-OPEN at this table: the tests of R95, with the report of R96. -/
def VisitState.openOutcome (v : VisitState) (limit : Nat) (r : VisitRecord) : ClaimResult :=
  if v.hasNumber r.number then .admitted
  else if v.hasToken r.claim.token then .duplicate
  else if limit ≤ v.table.length then .full
  else .admitted

/-- A VISIT-OPEN is taken: added by test 4, otherwise the table is unchanged (R95). -/
def VisitState.takeOpen (v : VisitState) (limit : Nat) (r : VisitRecord) : VisitState :=
  if v.hasNumber r.number || v.hasToken r.claim.token || decide (limit ≤ v.table.length) then v else v.add r

/-- The record of a VISIT-OPEN that passes the check: in range, and the opener its source (R94). -/
def decodeOpen (source : Station) (payload : List Byte) : Option VisitRecord :=
  (decodeVisitRecord payload).filter (fun r => r.number.opener == source)

/-- VISIT_OPEN (R94 to R96). -/
def execVisitOpen (source : Station) (payload : List Byte) (s : State) : Result :=
  .next ((s.took (.visitOpen source payload)).whenYard fun t =>
    match decodeOpen source payload with
    | none => t.countMalformed
    | some r =>
      ({ t with visits := t.visits.takeOpen t.cfg.yardLimit r }).postIf (source == t.own)
        (.claimOutcome r.number (t.visits.openOutcome t.cfg.yardLimit r)))

/-- A VISIT-CLOSE is taken: the visit is removed, or the frame is counted unmatched (R97). -/
def State.takeClose (s : State) (n : VisitNumber) : State :=
  if s.visits.hasNumber n then s.removeVisit n
  else { s with visits := { s.visits with unmatched := satSucc s.visits.unmatched } }

/-- VISIT_CLOSE (R94, R97, R98). -/
def execVisitClose (source : Station) (payload : List Byte) (s : State) : Result :=
  .next ((s.took (.visitClose source payload)).whenYard fun t =>
    match decodeVisitNumber payload with
    | none => t.countMalformed
    | some n =>
      (t.takeClose n).postIf (source == t.own)
        (.closeOutcome n (if t.visits.hasNumber n then .found else .absent)))

/-- VISIT_VOID (R94, R99). -/
def execVisitVoid (payload : List Byte) (s : State) : Result :=
  .next ((s.took (.visitVoid payload)).whenYard fun t =>
    match decodeVisitNumber payload with
    | none => t.countMalformed
    | some n => if t.visits.hasNumber n then t.removeVisit n else t)

/-- A VISIT-ANNOUNCE is taken: added, ignored, or ignored as a conflict and counted (R100). DESIGN CHOICE: where more
than one test fails, the first of number, token and count decides (log 48). -/
def VisitState.takeAnnounce (v : VisitState) (r : VisitRecord) : VisitState :=
  if v.hasNumber r.number then v
  else if v.hasToken r.claim.token then { v with conflicts := satSucc v.conflicts }
  else if v.table.length < maxVisits then v.add r
  else v

/-- VISIT_ANNOUNCE (R94, R100). -/
def execVisitAnnounce (payload : List Byte) (s : State) : Result :=
  .next ((s.took (.visitAnnounce payload)).whenYard fun t =>
    match decodeVisitRecord payload with
    | none => t.countMalformed
    | some r => { t with visits := t.visits.takeAnnounce r })

/-! ### Frames asked for by the lane (R92, R102 to R105) -/

/-- The sequence after a sequence: from 4,095 to 1 (R92). -/
def nextSequence (n : Nat) : Nat := if 4095 ≤ n then 1 else n + 1

/-- The own sequence advanced past each number found in the table, at most `fuel` times (R92). -/
def VisitState.freeSequence (v : VisitState) (own : Station) : Nat → Nat → Nat
  | 0, n => n
  | fuel + 1, n => if v.hasNumber ⟨own, v.epoch, n⟩ then v.freeSequence own fuel (nextSequence n) else n

/-- The number the next new claim takes (R91, R92). -/
def State.claimNumber (s : State) : VisitNumber :=
  ⟨s.own, s.visits.epoch, s.visits.freeSequence s.own s.visits.table.length s.visits.sequence⟩

/-- Which of its two frames the lane is told of. -/
def placedKindOf : LaneFrame → PlacedKind
  | .openFrame _ => .claim
  | .closeFrame _ => .close

/-- The frame in the slot is placed where the VISIT queue has room: the slot is emptied, a new claim's
sequence is spent, and the lane is told (R102, R103, R92). Otherwise it stays (R102). -/
def State.placeSlot (s : State) : State :=
  match s.visits.slot with
  | none => s
  | some f =>
    let r := s.place (laneFrameOf f.frame)
    if r.2 then
      ({ r.1 with visits := { r.1.visits with
          slot := none
          sequence := if f.isNew then nextSequence r.1.visits.sequence else r.1.visits.sequence } }).post
        (.laneFramePlaced (placedKindOf f.frame) f.frame.number)
    else r.1

/-- A frame is put into the slot and handed on (R102, R103). -/
def State.putSlot (s : State) (frame : LaneFrame) (isNew : Bool) : State :=
  ({ s with visits := { s.visits with slot := some { frame, isNew } } }).placeSlot

/-- The lane copies the number of its claim into the visit reference (R67; log 24). -/
def State.copyClaimNumber (s : State) (n : VisitNumber) : State :=
  if s.lane.state = .weighing ∧ s.lane.asked = some .claim then
    { s with lane := { s.lane with record := { s.lane.record with visitRef := some n } } }
  else s

/-- CLAIM_REQUEST: the claim gets its number and becomes a VISIT-OPEN (R67, R92, R102). Before JOINING too the frame
is placed, and waits in its queue (R158). -/
def execClaimRequest (claim : Claim) (s : State) : Result :=
  .next ((s.took (.claimRequest claim)).whenLane fun t =>
    let n := t.claimNumber
    (({ t with visits := { t.visits with sequence := n.sequence } }).copyClaimNumber n).putSlot
      (.openFrame ⟨n, claim⟩) true)

/-- RECLAIM: a re-claim or a re-sent frame, with its first number and contents (R104). -/
def execReclaim (frame : LaneFrame) (s : State) : Result :=
  .next ((s.took (.reclaim frame)).whenLane fun t => t.putSlot frame false)

/-- CLOSE_REQUEST: a close becomes a VISIT-CLOSE (R103). -/
def execCloseRequest (number : VisitNumber) (s : State) : Result :=
  .next ((s.took (.closeRequest number)).whenLane fun t => t.putSlot (.closeFrame number) false)

/-- FRAME_WITHDRAW: the slot is emptied (R102). -/
def execFrameWithdraw (s : State) : Result :=
  .next ((s.took .frameWithdraw).whenLive fun t => { t with visits := { t.visits with slot := none } })

/-- LOOKUP: the visit whose token equals the given token, or none; nothing else changes (R109). -/
def execLookup (token : Token) (s : State) : Result :=
  .next (s.whenLane fun s => { s with answers := { s.answers with lookup := some (s.visits.find token) } })

/-! ### The cursor's commands (R105, R108, R164, R166) -/

/-- The announcement of a visit is placed, and the cursor moves on; or it waits for room, and behind a lane
frame (R166, R105). -/
def State.announce (s : State) (r : VisitRecord) : State :=
  let p := s.place (announceFrame r)
  if s.visits.slot.isNone && p.2 then p.1.moveCursor
  else { s with visits := { s.visits with cursor := { s.visits.cursor with waiting := some r } } }

/-- VISIT_QUEUE_DEPARTURE: a waiting lane frame is handed first, otherwise a waiting announcement (R105,
R154). -/
def execVisitQueueDeparture (s : State) : Result :=
  .next ((s.took .visitQueueDeparture).whenLive fun t =>
    match t.visits.slot, t.visits.cursor.waiting with
    | some _, _ => t.placeSlot
    | none, some r => t.announce r
    | none, none => t)

/-- CURSOR_ENABLE: the station is ACTIVE, and its cursor may run (R108, R159). -/
def execCursorEnable (s : State) : Result :=
  .next ((s.took .cursorEnable).whenLive fun t => { t with visits := { t.visits with cursorEnabled := true } })

/-- A starting event: the joiner is added to the set, and the cursor stands on the oldest visit; the walk of
an empty table ends at once (R164). -/
def Cursor.started (c : Cursor) (joiner : Station) (length : Nat) : Cursor :=
  ({ walking := true
     position := 0
     joiners := if c.joiners.contains joiner then c.joiners else c.joiners ++ [joiner]
     waiting := none } : Cursor).within length

/-- CURSOR_START (R164, R108). -/
def execCursorStart (joiner : Station) (s : State) : Result :=
  .next ((s.took (.cursorStart joiner)).whenLive fun t =>
    if t.visits.cursorEnabled then
      ({ t with visits := { t.visits with
          cursor := t.visits.cursor.started joiner t.visits.table.length } }).postAdvance
    else t)

/-- This station is the custodian of a visit, by its own peer table (R165). -/
def State.isCustodian (s : State) (r : VisitRecord) : Bool :=
  custodianOf s.peers.table s.visits.cursor.joiners r.number.opener == some s.own

/-- The cursor stands at a visit: this station announces it as its custodian, or the cursor moves on (R166). -/
def State.advanceCursor (s : State) : State :=
  match s.visits.table[s.visits.cursor.position]? with
  | none => { s with visits := { s.visits with cursor := {} } }
  | some r => if s.isCustodian r then s.announce r else s.moveCursor

/-- CURSOR_ADVANCE (R166). -/
def execCursorAdvance (s : State) : Result :=
  .next ((s.took .cursorAdvance).whenLive fun t =>
    if t.visits.cursor.walking && t.visits.cursor.waiting.isNone then t.advanceCursor else t)

end Sys2Proof.Machine
end

