-- ==== Sys2Proof/Machine/LaneOps.lean ====
section
/-! DEFINITION. What the lane controller does, shared by its events and the office commands: entries into its
states, the claim and the close, the departure, and the pending command (chapter 4). -/

namespace Sys2Proof.Machine

/-! ### Parts of the lane's state -/

/-- The transaction record replaced. -/
def State.withRecord (s : State) (r : TxnRecord) : State := { s with lane := { s.lane with record := r } }

/-- The sign code set (R53). -/
def State.showSign (s : State) (code : Sign) : State := { s with lane := { s.lane with sign := code } }

/-- The progress set (R59). -/
def State.withProgress (s : State) (p : Progress) : State := s.withRecord { s.lane.record with progress := p }

/-- The near end of the record; the road end where the record has none. -/
def State.nearEnd (s : State) : End := s.lane.record.near.getD s.cfg.roadEnd

/-- The far end of the record. -/
def State.farEnd (s : State) : End := s.nearEnd.other

/-- The ID wait, the stability limit and the clear-deck limit are stopped (R62, R78, R83). -/
def State.stopLaneTimers (s : State) : State :=
  { s with lane := { s.lane with idWait := none, stabilityLimit := none, clearDeckLimit := none } }

/-- The last office command with its result is recorded (R80). -/
def State.recordCommand (s : State) (c : OfficeCommand) (r : CommandResult) : State :=
  { s with lane := { s.lane with lastCommand := some ⟨c, r⟩ } }

/-- A lane state is taken, with the lamps and the sign of R60: one green at most, and no ASSIST reason; what the
lane waited on in the state it leaves is over. -/
def State.setState (s : State) (l : LaneState) (green : Option End) (code : Sign) : State :=
  let t := s.requestHeads green
  { t with lane := { t.lane with
      state := l, sign := code, waitActive := false, leg := .rising, record := { t.lane.record with assist := none } } }

/-! ### Frames the lane has asked for (R67, R68, R70, R79) -/

/-- A request of the lane for a visit frame. -/
def isFrameRequest : Posted → Bool
  | .event (.claimRequest _) => true
  | .event (.reclaim _) => true
  | .event (.closeRequest _) => true
  | _ => false

/-- A frame is asked for (R67, R68, R70, R79). -/
def State.askFrame (s : State) (a : Asked) (i : Instr) : State :=
  ({ s with lane := { s.lane with asked := some a } }).post i

/-- A frame that still waits for room is withdrawn (R67, R70, R75, R82, R83; log 19). -/
def State.withdraw (s : State) : State :=
  if s.lane.asked.isSome then
    ({ s with
        lane := { s.lane with asked := none }
        posted := s.posted.filter (fun p => !isFrameRequest p) }).post .frameWithdraw
  else s

/-- The waiting issue is withdrawn where the lane leaves TICKETING (R130). -/
def State.withdrawIssue (s : State) : State :=
  match s.lane.state, s.lane.record.visitRef with
  | .ticketing, some n => s.post (.issueWithdraw n)
  | _, _ => s

/-- What the record holds of a claim (R67, R90). -/
def TxnRecord.claim (r : TxnRecord) : Option Claim :=
  match r.token, r.kind, r.category, r.rate, r.capture with
  | some token, some kind, some category, some rate, some (weight, time) =>
    some { token, kind, category, rate, weight, time, tare := r.tare, manual := r.manual }
  | _, _, _, _, _ => none

/-- The VISIT-OPEN of a re-claim or a re-sent claim: the first number and the whole record (R70, R104). -/
def TxnRecord.openFrame (r : TxnRecord) : Option LaneFrame :=
  match r.visitRef, r.claim with
  | some n, some c => some (.openFrame ⟨n, c⟩)
  | _, _ => none

/-- The fresh VISIT-OPEN of a re-claim is asked for (R70, R79). -/
def State.askReclaim (s : State) : State :=
  match s.lane.record.openFrame with
  | some f => s.askFrame .reclaim (.reclaim f)
  | none => s

/-- The same VISIT-CLOSE is asked for again (R79). -/
def State.askCloseAgain (s : State) : State :=
  match s.lane.record.visitRef with
  | some n => s.askFrame .close (.reclaim (.closeFrame n))
  | none => s

/-! ### ASSIST, IDLE, DECK-BLOCKED, HELD (R62, R69, R78, R86) -/

/-- The progress that ASSIST holds with a reason (R78). -/
def progressInAssist (reason : Reason) (p : Progress) : Progress :=
  match reason with
  | .duplicate => .none
  | .unmatched => .none
  | _ => p

/-- A frame that waits for room is withdrawn where the lane leaves the state that asked for it; one that ASSIST
itself waits with goes on waiting (R67, R70, R79; log 38). -/
def State.withdrawOutsideAssist (s : State) : State := if s.lane.state = .assist then s else s.withdraw

/-- ASSIST is entered with a reason (R78). -/
def State.enterAssist (s : State) (reason : Reason) : State :=
  let t := ((s.withdrawOutsideAssist.withdrawIssue.stopLaneTimers.closeCapture).setState .assist none .seeOffice)
  ((t.withRecord { t.lane.record with
      assist := some reason, progress := progressInAssist reason t.lane.record.progress }).raiseHelp reason).report

/-- IDLE is entered (R62, in its order; the help status as R57). -/
def State.enterIdle (s : State) : State :=
  let cleared := ((s.withRecord {}).stopLaneTimers).closeCapture
  let lowered := (((cleared.lowerBarrier .a).1).lowerBarrier .b).1
  let shown := lowered.setState .idle none (if s.lane.calHold then .stop else .blank)
  (({ shown with lane := { shown.lane with help := .none, asked := none, ticketed := false } }).post .ready).report

/-- DECK-BLOCKED is entered (R86). -/
def State.enterDeckBlocked (s : State) : State :=
  (((((s.lowerBarrier .a).1.lowerBarrier .b).1).setState .deckBlocked none .seeOffice).raiseHelp .deckBlocked).report

/-- HELD is entered (R69). -/
def State.enterHeld (s : State) : State := (s.setState .held none .yardFull).report

/-! ### Weighing (R66 to R68) -/

/-- The record's category is resolved where none is held (R66, R120). -/
def State.settleCategory (s : State) : State :=
  match s.lane.record.category, s.lane.record.token with
  | none, some token =>
    let r := s.resolveCategory token s.lane.record.readerCategory
    r.1.withRecord { r.1.lane.record with category := some r.2 }
  | _, _ => s

/-- The record's category is CLOSED, as the store answers it. -/
def State.heldClosed (s : State) : Bool := (s.lane.record.category.map s.isClosed).getD false

/-- The closed question for the record's category, answered (R66, R120). -/
def State.askHeldClosed (s : State) : State :=
  match s.lane.record.category with
  | some c => s.askClosed c
  | none => s

/-- WEIGHING is entered (R66): the frame of this state change is placed with the category resolved, before the
closed question is asked (log 17). -/
def State.enterWeighing (s : State) : State :=
  let w := (s.openCapture).setState .weighing none .weighing
  let t := { w with lane := { w.lane with
      stabilityLimit := some w.cfg.stabilityLimit, record := { w.lane.record with capture := none } } }
  if t.lane.record.direction = some .inbound then
    let u := t.settleCategory.report.askHeldClosed
    if u.heldClosed then u.enterAssist .categoryClosed else u
  else t.report

/-- The lane waits in WEIGHING for the station to be ACTIVE, its capture held (R67, R68). -/
def State.awaitActive (s : State) : State :=
  let t := s.showSign .wait
  { t with lane := { t.lane with waitActive := true } }

/-- Step 3 of R67: the claim is asked for, where the record holds what it needs. -/
def State.askClaim (s : State) : State :=
  match s.lane.record.claim with
  | some c => s.askFrame .claim (.claimRequest c)
  | none => s

/-- Steps 1 to 3 of R67 for an inbound transaction with its capture held. -/
def State.goClaim (s : State) : State :=
  if s.joining then s.awaitActive
  else
    match s.lane.record.token, s.lane.record.category with
    | some token, some category =>
      let t := s.requestKind token category
      match s.kindAnswer token category with
      | .closed => t.enterAssist .categoryClosed
      | .given kind rate tare =>
        (t.withRecord { t.lane.record with kind := some kind, rate := some rate, tare := tare }).askClaim
    | _, _ => s

/-- The weight of the capture held. -/
def TxnRecord.captureWeight (r : TxnRecord) : Nat := (r.capture.map (·.1)).getD 0

/-- The net, load direction and charge of a TWO-PASS visit in the record (R122, R124, R126). -/
def TxnRecord.formTwoPass (r : TxnRecord) (d : Nat) (v : VisitRecord) : TxnRecord :=
  let net := twoPassNet v.claim.weight r.captureWeight
  { r with
    net := some net
    load := some (twoPassLoad v.claim.weight r.captureWeight)
    charge := some (chargeOf net v.claim.rate)
    belowMin := belowMinimum d net
    tareOver := false }

/-- The net, load direction and charge of an admitted STORED-TARE visit in the record (R123, R124, R126). -/
def TxnRecord.formStoredTare (r : TxnRecord) (d : Nat) : TxnRecord :=
  let tare := r.tare.getD 0
  let net := storedNet r.captureWeight tare
  { r with
    net := some net
    load := some (storedLoad r.captureWeight tare)
    charge := some (chargeOf net (r.rate.getD 0))
    belowMin := belowMinimum d net
    tareOver := r.captureWeight < tare }

/-- The record with what a lookup found: the visit's number and copy, its kind, rate and tare copy (R68). -/
def TxnRecord.withVisit (r : TxnRecord) (v : VisitRecord) : TxnRecord :=
  { r with
    visitRef := some v.number, visitCopy := some v, kind := some v.claim.kind, rate := some v.claim.rate
    tare := v.claim.tare }

/-- A capture copied into the record with its depot time (R67). The net, load direction and charge formed from an
earlier capture do not stand beside it (R122; log 33). -/
def TxnRecord.takeCapture (r : TxnRecord) (weight : Nat) (time : Option DepotTime) : TxnRecord :=
  { r with
    capture := some (weight, time), net := none, load := none, charge := none, belowMin := false, tareOver := false }

/-- The net of the record is that of this visit already, from the capture held, and is kept (R122). -/
def TxnRecord.netStands (r : TxnRecord) (n : VisitNumber) : Bool := r.net.isSome && r.visitRef == some n

/-- The visit of an outbound transaction was found: its net is formed, unless the record holds it already, or its
exit check made, and the close is asked for (R68, R122, R125). DESIGN CHOICE: a STORED-TARE visit leaves a net that an
earlier visit gave in the record (log 56). -/
def State.visitFound (s : State) (v : VisitRecord) : State :=
  let r := s.lane.record.withVisit v
  let d := s.retained.cal.interval
  match v.claim.kind with
  | .twoPass =>
    (s.withRecord (if s.lane.record.netStands v.number then r else r.formTwoPass d v)).askFrame .close
      (.closeRequest v.number)
  | .storedTare =>
    if exitCheck s.cfg.tareTolerance d r.captureWeight (v.claim.tare.getD 0) then
      (s.withRecord r).askFrame .close (.closeRequest v.number)
    else (s.withRecord r).enterAssist .tareDiscrepancy

/-- The lookup's answer, kept (R109; log 26). -/
def State.keepLookup (s : State) (v : Option VisitRecord) : State :=
  { s with answers := { s.answers with lookup := some v } }

/-- The visit was not found (R68): UNMATCHED, or a wait in WEIGHING for the station to be ACTIVE. From ASSIST that
wait is an entry into WEIGHING: the capture request is opened, which empties the window (R12, R19), and the capture
held and its stopped stability limit stand (log 18). DESIGN CHOICE: what the record holds of a visit that an earlier
lookup found stands too (log 50). -/
def State.visitAbsent (s : State) : State :=
  if s.joining then
    if s.lane.state = .weighing then s.awaitActive
    else ((s.openCapture.setState .weighing none .wait).awaitActive).report
  else s.enterAssist .unmatched

/-- The lookup of R68 for an outbound transaction. -/
def State.doLookup (s : State) : State :=
  match s.lane.record.token with
  | none => s
  | some token =>
    let t := s.keepLookup (s.visits.find token)
    match s.visits.find token with
    | some v => t.visitFound v
    | none => t.visitAbsent

/-! ### Boarding (R64, R65) -/

/-- The boarding condition (R65). -/
def State.boardingHolds (s : State) : Bool := s.deck.presence && !s.active? (.safety s.nearEnd) && s.beamsClear

/-- The boarding condition is tested (R65). -/
def State.boardingTest (s : State) : State :=
  if s.boardingHolds then
    let r := s.lowerBarrier s.nearEnd
    if r.2 then (r.1.withRecord { r.1.lane.record with boarded := true }).enterWeighing
    else r.1.enterAssist .barrierFault
  else s

/-- BOARDING is entered, and the condition tested (R64, R65). -/
def State.enterBoarding (s : State) : State := ((s.setState .boarding (some s.nearEnd) .proceed).report).boardingTest

/-- RAISE is sent to the near barrier, and BOARDING entered where it is ACCEPTED (R64, R79). -/
def State.raiseToBoard (s : State) : State :=
  let r := s.raiseBarrier s.nearEnd
  if r.2 then r.1.enterBoarding else r.1.enterAssist .barrierFault

/-- A token is taken in APPROACH or in ASSIST with reason NO-TOKEN (R64, R81). -/
def State.awaitsToken (s : State) : Bool :=
  s.lane.state == .approach || (s.lane.state == .assist && s.lane.record.assist == some .noToken)

/-! ### Departure (R73, R74) -/

/-- The clear condition of R74. -/
def State.clearHolds (s : State) : Bool := !s.deck.presence && !s.active? (.safety s.farEnd)

/-- The clear condition is tested after step 1 of R74, and acted on where it holds. -/
def State.clearTest (s : State) : State :=
  if s.lane.leg = .clearing ∧ s.clearHolds then
    let t := { s with lane := { s.lane with clearDeckLimit := none } }
    let r := t.lowerBarrier t.farEnd
    if r.2 then
      let u := (r.1.requestHead r.1.farEnd .on .off).showSign .blank
      { u with lane := { u.lane with leg := .lowering } }
    else r.1.enterAssist .barrierFault
  else s

/-- Step 1 of R74: the far barrier stands UP. -/
def State.farUp (s : State) : State :=
  let t := (s.requestHead s.farEnd .off .on).showSign .proceed
  ({ t with lane := { t.lane with leg := .clearing, clearDeckLimit := some t.cfg.clearDeckLimit } }).clearTest

/-- DEPARTING is entered: far red ON and green OFF; the near lamps stay as they were (R73). -/
def State.enterDeparting (s : State) : State :=
  let t := (s.requestHead s.farEnd .on .off).showSign (if s.lane.ticketed then .takeTicket else .wait)
  ({ t with lane := { t.lane with
      state := .departing, leg := .rising, waitActive := false
      record := { t.lane.record with assist := none } } }).report

/-- The departure (R73): RAISE is sent to the far barrier; one that already stood UP gives step 1 of R74 at
once. -/
def State.depart (s : State) : State :=
  let r := s.raiseBarrier s.farEnd
  if r.2 then
    if (s.barrier s.farEnd).state = .up then r.1.enterDeparting.farUp else r.1.enterDeparting
  else r.1.enterAssist .barrierFault

/-! ### The ticket (R72) -/

/-- What the lane hands the ticket unit (R72, R128): the inbound part is the visit's for an outbound vehicle and
the lane's own otherwise. -/
def State.issueRequest (s : State) : Option IssueRequest :=
  let r := s.lane.record
  match r.visitRef, r.token, r.kind, r.rate, r.capture, r.net, r.load, r.charge with
  | some visit, some token, some kind, some rate, some (weight, time), some net, some load, some charge =>
    let here : Weighing := { weight, time, station := s.own }
    match r.visitCopy with
    | some v =>
      some { visit, token, manual := r.manual || v.claim.manual, kind, category := v.claim.category, rate
             inbound := { weight := v.claim.weight, time := v.claim.time, station := v.inboundStation }
             outbound := some here, tare := r.tare, net, load, charge, belowMin := r.belowMin, tareOver := r.tareOver }
    | none =>
      some { visit, token, manual := r.manual, kind, category := r.category.getD 0, rate, inbound := here
             outbound := none, tare := r.tare, net, load, charge, belowMin := r.belowMin, tareOver := r.tareOver }
  | _, _, _, _, _, _, _, _ => none

/-- The issue is handed to the ticket unit, and TICKETING entered; help is raised where the printer stands in
PAPER-OUT or FAULT (R72, R54). -/
def State.startIssue (s : State) : State :=
  match s.issueRequest with
  | none => s
  | some q =>
    let t := (s.post (.issue q)).setState .ticketing none .wait
    (if t.tickets.printer = .paperOut ∨ t.tickets.printer = .fault then t.raiseHelp .printer else t).report

/-! ### BACK and PASS (R82, R83, R84) -/

/-- The reversing condition (R83). -/
def State.reversingHolds (s : State) : Bool :=
  !s.deck.presence && !s.active? (.safety s.nearEnd) && !s.active? (.approach s.nearEnd)

/-- The reversing condition is tested once the near barrier has stood UP, and acted on where it holds (R83). -/
def State.reversingTest (s : State) : State :=
  if s.lane.leg = .clearing ∧ s.reversingHolds then
    let r := s.lowerBarrier s.nearEnd
    if r.2 then { r.1 with lane := { r.1.lane with leg := .lowering } } else r.1.enterAssist .barrierFault
  else s

/-- The near barrier stands UP in REVERSING (R83). -/
def State.nearUp (s : State) : State := ({ s with lane := { s.lane with leg := .clearing } }).reversingTest

/-- The transaction leaves its visit on site when BACK is applied to it (R83). -/
def TxnRecord.leavesVisit (r : TxnRecord) : Bool :=
  r.direction == some .inbound && (r.progress == .admitted || r.progress == .released)

/-- An orphan admission is counted, and its LANE-STATUS carries the count and the visit number (R76, R83). -/
def State.countOrphan (s : State) : State := { s with lane := { s.lane with orphans := satSucc s.lane.orphans } }

/-- REVERSING is entered, counting an orphan admission where the visit stays on site (R83; log 20). -/
def State.enterReversing (s : State) : State :=
  let t := s.setState .reversing (some s.nearEnd) .reverse
  if t.lane.record.leavesVisit then t.countOrphan.placeStatus t.lane.record.visitRef else t.report

/-- BACK is applied (R83). -/
def State.applyBack (s : State) : State :=
  let t := s.withdraw.closeCapture.stopLaneTimers
  let r := t.raiseBarrier t.nearEnd
  if r.2 then
    if (t.barrier t.nearEnd).state = .up then r.1.enterReversing.nearUp else r.1.enterReversing
  else r.1.enterAssist .barrierFault

/-- PASS is applied (R82). -/
def State.applyPass (s : State) : State := s.withdraw.withdrawIssue.closeCapture.stopLaneTimers.depart

/-- The office command that may be held. -/
def HeldCommand.command : HeldCommand → OfficeCommand
  | .back => .back
  | .pass => .pass

/-- A held command applied. -/
def State.applyHeld (s : State) : HeldCommand → State
  | .back => s.applyBack
  | .pass => s.applyPass

/-- The pending command is cleared. -/
def State.clearPending (s : State) : State := s.withRecord { s.lane.record with pendingCommand := none }

/-- ADMITTED or FOUND discards the pending command, which is reported refused (R84). -/
def State.discardPending (s : State) : State :=
  match s.lane.record.pendingCommand with
  | some c => ((s.clearPending).recordCommand c.command .refused).report
  | none => s

/-- Any other outcome applies the pending command in place of what it would lead to (R84). -/
def State.applyPendingOr (s : State) (f : State → State) : State :=
  match s.lane.record.pendingCommand with
  | some c => ((s.clearPending).recordCommand c.command .done).applyHeld c
  | none => f s

end Sys2Proof.Machine
end

