-- ==== Sys2Proof/Machine/Lane.lean ====
section
/-! DEFINITION. The events of the lane controller: LANE_START_REPORT to CAL_HOLD_RELEASE, and
NEAR_APPROACH_RELEASE (chapter 4). The office commands stand in their own file. -/

namespace Sys2Proof.Machine

/-! ### Start, approach and token (R61, R63, R64, R86) -/

/-- A hold asked for before the start report is put to the lane after it (R61, R177; log 21). -/
def State.postHeldRequest (s : State) : State :=
  s.postIf ((s.cal.inHand.map (·.stage)) == some .awaitingHold && !s.posted.contains (.event .calHoldRequest))
    .calHoldRequest

/-- The first event the lane controller takes: IDLE, or DECK-BLOCKED where presence is true; an OFFLINE station
stands in IDLE and does nothing more (R61, R86). -/
def State.takeStartReport (s : State) (presence : Bool) : State :=
  let t := { s with lane := { s.lane with reported := true } }
  if t.offline then t
  else (if presence then t.enterDeckBlocked else t.enterIdle).postHeldRequest

/-- LANE_START_REPORT (R61, R86). The input states and the arm it carries are those the deck sensor unit holds,
which the lane reads there. -/
def execLaneStartReport (presence : Bool) (inputs : Vector Bool 14) (armed : Bool) (s : State) : Result :=
  .next ((s.took (.laneStartReport presence inputs armed)).whenLive fun t =>
    if t.lane.reported then t else t.takeStartReport presence)

/-- An approach offer taken in IDLE with the calibration hold clear (R63). -/
def State.enterApproach (s : State) (near : End) (direction : Direction) : State :=
  let t := (s.withRecord { s.lane.record with near := some near, direction := some direction }).setState .approach none
    .stop
  ({ t with lane := { t.lane with idWait := some t.cfg.idWait } }).report

/-- LANE_APPROACH_OFFER (R63, R87). -/
def execLaneApproachOffer (near : End) (direction : Direction) (s : State) : Result :=
  .next ((s.took (.laneApproachOffer near direction)).whenLane fun t =>
    if t.lane.state = .idle ∧ !t.lane.calHold then t.enterApproach near direction else t)

/-- ID_WAIT_EXPIRY (R63). -/
def execIdWaitExpiry (s : State) : Result :=
  .next (s.whenLane fun s =>
    if s.lane.idWait.isSome ∧ s.lane.state = .approach then
      ({ s with lane := { s.lane with idWait := none } }).enterAssist .noToken
    else s)

/-- A reader token is copied into the record with its category, the ID wait stopped, and the near barrier sent up
(R64). -/
def State.takeReaderToken (s : State) (token : Token) (category : Option Category) : State :=
  let t := s.withRecord { s.lane.record with token := some token, readerCategory := category }
  ({ t with lane := { t.lane with idWait := none } }).raiseToBoard

/-- READER_MESSAGE (R64): discarded where its length, its token or its category is out of range. -/
def execReaderMessage (message : List Byte) (s : State) : Result :=
  .next (s.whenLane fun s =>
    match decodeReader message with
    | some (token, category) => if s.awaitsToken then s.takeReaderToken token category else s
    | none => s)

/-! ### Presence, loops, beams, barriers (R65, R74, R75, R77, R83) -/

/-- Presence lost in WEIGHING, CLAIMING or HELD abandons the transaction (R75). -/
def State.abandon (s : State) : State := s.withdraw.enterIdle

/-- A presence-changed event, by lane state (R65, R74, R75, R83, R86). DESIGN CHOICE: in BOARDING one to false makes
the test of R65 too, on the presence then held (log 45). -/
def State.presenceChanged (s : State) (presence : Bool) : State :=
  match s.lane.state with
  | .boarding => s.boardingTest
  | .weighing => if presence then s else s.abandon
  | .claiming => if presence then s else s.abandon
  | .held => if presence then s else s.abandon
  | .departing => s.clearTest
  | .reversing => s.reversingTest
  | .deckBlocked => if presence then s else s.enterIdle
  | .idle => s
  | .approach => s
  | .closing => s
  | .ticketing => s
  | .assist => s

/-- LANE_PRESENCE_CHANGED (R75). -/
def execLanePresenceChanged (presence : Bool) (s : State) : Result :=
  .next ((s.took (.lanePresenceChanged presence)).whenLane fun t => t.presenceChanged presence)

/-- A safety loop release, by lane state: the near one in BOARDING and REVERSING, the far one in DEPARTING (R65,
R74, R83). -/
def State.safetyRelease (s : State) (e : End) : State :=
  match s.lane.state with
  | .boarding => if e = s.nearEnd then s.boardingTest else s
  | .reversing => if e = s.nearEnd then s.reversingTest else s
  | .departing => if e = s.farEnd then s.clearTest else s
  | _ => s

/-- LANE_SAFETY_LOOP_EVENT: an activation takes no step (R65, R74, R83). -/
def execLaneSafetyLoopEvent (e : End) (active : Bool) (s : State) : Result :=
  .next ((s.took (.laneSafetyLoopEvent e active)).whenLane fun t => if active then t else t.safetyRelease e)

/-- LANE_BEAM_EVENT: a release in BOARDING tests the boarding condition (R65). -/
def execLaneBeamEvent (e : End) (active : Bool) (s : State) : Result :=
  .next ((s.took (.laneBeamEvent e active)).whenLane fun t =>
    if !active ∧ t.lane.state = .boarding then t.boardingTest else t)

/-- An arrival at UP, by lane state (R65, R74, R77, R83). -/
def State.arrivalUp (s : State) (e : End) : State :=
  match s.lane.state with
  | .boarding => if e = s.nearEnd then s.boardingTest else s
  | .departing => if e = s.farEnd ∧ s.lane.leg = .rising then s.farUp else s
  | .reversing => if e = s.nearEnd ∧ s.lane.leg = .rising then s.nearUp else s
  | _ => s

/-- An arrival at DOWN, by lane state (R74, R77, R83). -/
def State.arrivalDown (s : State) (e : End) : State :=
  match s.lane.state with
  | .departing => if e = s.farEnd ∧ s.lane.leg = .lowering then s.enterIdle else s
  | .reversing => if e = s.nearEnd ∧ s.lane.leg = .lowering then s.enterIdle else s
  | _ => s

/-- LANE_BARRIER_ARRIVAL (R65, R74, R77, R83). -/
def execLaneBarrierArrival (e : End) (place : Limit) (s : State) : Result :=
  .next ((s.took (.laneBarrierArrival e place)).whenLane fun t =>
    match place with
    | .up => t.arrivalUp e
    | .down => t.arrivalDown e)

/-- The lane state is not changed by a barrier-fault event (R77). -/
def keepsState : LaneState → Bool
  | .idle => true
  | .deckBlocked => true
  | .claiming => true
  | .closing => true
  | _ => false

/-- LANE_BARRIER_FAULT (R77). -/
def execLaneBarrierFault (e : End) (reason : FaultReason) (s : State) : Result :=
  .next ((s.took (.laneBarrierFault e reason)).whenLane fun t =>
    if keepsState t.lane.state then t.report else t.enterAssist .barrierFault)

/-- NEAR_APPROACH_RELEASE: an input to the reversing test (R83). -/
def execNearApproachRelease (e : End) (s : State) : Result :=
  .next ((s.took (.nearApproachRelease e)).whenLane fun t =>
    if t.lane.state = .reversing ∧ e = t.nearEnd then t.reversingTest else t)

/-! ### Weighing (R66 to R68) -/

/-- A capture copied into the record with the depot time, the stability limit stopped (R67). -/
def State.copyCapture (s : State) (weight : Nat) : State :=
  { s with lane := { s.lane with
      stabilityLimit := none, record := s.lane.record.takeCapture weight s.peers.clock } }

/-- The lane goes on with its capture: an inbound one to its claim, an outbound one to its lookup (R67, R68). -/
def State.goOn (s : State) : State :=
  match s.lane.record.direction with
  | some .inbound => s.goClaim
  | some .outbound => s.doLookup
  | none => s

/-- CAPTURE: discarded in any state but WEIGHING, and where a capture is held (R67, R68). -/
def execCapture (weight : Nat) (s : State) : Result :=
  .next ((s.took (.capture weight)).whenLane fun t =>
    if t.lane.state = .weighing ∧ t.lane.record.capture = none then (t.copyCapture weight).goOn else t)

/-- LANE_CONVERTER_FAILED (R5, R66). -/
def execLaneConverterFailed (s : State) : Result :=
  .next ((s.took .laneConverterFailed).whenLane fun t =>
    if t.lane.state = .weighing then t.enterAssist .converterFail else t)

/-- STABILITY_LIMIT_EXPIRY (R66). -/
def execStabilityLimitExpiry (s : State) : Result :=
  .next (s.whenLane fun s =>
    if s.lane.stabilityLimit.isSome ∧ s.lane.state = .weighing then s.enterAssist .noCapture else s)

/-- STATION_ACTIVE: a lane that waits for it goes on with the capture it holds (R67, R68). -/
def execStationActive (s : State) : Result :=
  .next ((s.took .stationActive).whenLane fun t =>
    if t.lane.state = .weighing ∧ t.lane.waitActive then
      ({ t with lane := { t.lane with waitActive := false } }).goOn
    else t)

/-- The frame the lane asked for was placed: an open takes it to CLAIMING, a close to CLOSING (R67, R68, R70,
R79). The capture request is closed, where the lane leaves WEIGHING with it open (R19). -/
def State.framePlaced (s : State) (kind : PlacedKind) : State :=
  let t := State.closeCapture { s with lane := { s.lane with asked := none } }
  match kind with
  | .claim => ((t.withProgress .claimOut).setState .claiming none .weighing).report
  | .close => ((t.withProgress .closeOut).setState .closing none .weighing).report

/-- The lane still waits for the frame that was placed. -/
def Lane.awaits (l : Lane) (kind : PlacedKind) (number : VisitNumber) : Bool :=
  l.record.visitRef == some number &&
    (match kind, l.asked with
      | .claim, some .claim => true
      | .claim, some .reclaim => true
      | .close, some .close => true
      | _, _ => false)

/-- LANE_FRAME_PLACED (R67, R68, R70, R79). -/
def execLaneFramePlaced (kind : PlacedKind) (number : VisitNumber) (s : State) : Result :=
  .next ((s.took (.laneFramePlaced kind number)).whenLane fun t =>
    if t.lane.awaits kind number then t.framePlaced kind else t)

/-! ### Outcomes (R69 to R72, R76, R84) -/

/-- The outcome is that of the lane's own open (R69). -/
def Lane.ownsClaim (l : Lane) (number : VisitNumber) : Bool :=
  l.state == .claiming && l.record.visitRef == some number && l.record.progress == .claimOut

/-- The outcome is that of the lane's own close (R71). -/
def Lane.ownsClose (l : Lane) (number : VisitNumber) : Bool :=
  l.state == .closing && l.record.visitRef == some number && l.record.progress == .closeOut

/-- ADMITTED: a TWO-PASS vehicle departs, a STORED-TARE one is ticketed (R69). -/
def State.admitted (s : State) : State :=
  if s.lane.record.kind = some .storedTare then
    let t := s.withProgress .admitted
    (t.withRecord (t.lane.record.formStoredTare t.retained.cal.interval)).startIssue
  else (s.withProgress .released).depart

/-- The outcome of the lane's own open, a pending command being settled first (R69, R84). -/
def State.takeClaimOutcome (s : State) : ClaimResult → State
  | .admitted => s.discardPending.admitted
  | .full => s.applyPendingOr State.enterHeld
  | .duplicate => (s.withProgress .none).applyPendingOr fun s => s.enterAssist .duplicate
  | .notDelivered => (s.withProgress .claimDropped).applyPendingOr fun s => s.enterAssist .notDelivered

/-- The outcome of an abandoned open: ADMITTED is an orphan admission, any other is discarded (R76). -/
def State.takeAbandoned (s : State) (number : VisitNumber) : ClaimResult → State
  | .admitted => s.countOrphan.placeStatus (some number)
  | _ => s

/-- CLAIM_OUTCOME (R69, R76, R84). -/
def execClaimOutcome (number : VisitNumber) (result : ClaimResult) (s : State) : Result :=
  .next ((s.took (.claimOutcome number result)).whenLane fun t =>
    if t.lane.ownsClaim number then t.takeClaimOutcome result else t.takeAbandoned number result)

/-- FOUND: a TWO-PASS visit is ticketed, a STORED-TARE one departs (R71). -/
def State.closeFound (s : State) : State :=
  if s.lane.record.kind = some .storedTare then (s.withProgress .released).depart
  else (s.withProgress .closed).startIssue

/-- The outcome of the lane's own close, a pending command being settled first (R71, R84). -/
def State.takeCloseOutcome (s : State) : CloseResult → State
  | .found => s.discardPending.closeFound
  | .absent => (s.withProgress .none).applyPendingOr fun s => s.enterAssist .unmatched
  | .notDelivered => (s.withProgress .closeDropped).applyPendingOr fun s => s.enterAssist .notDelivered

/-- CLOSE_OUTCOME (R71, R84). An outcome that is not the lane's own changes nothing (R76). -/
def execCloseOutcome (number : VisitNumber) (result : CloseResult) (s : State) : Result :=
  .next ((s.took (.closeOutcome number result)).whenLane fun t =>
    if t.lane.ownsClose number then t.takeCloseOutcome result else t)

/-- REMOVAL_REPORT: in HELD a removal starts a re-claim, and further ones add nothing while it waits (R70,
R101). -/
def execRemovalReport (number : VisitNumber) (s : State) : Result :=
  .next ((s.took (.removalReport number)).whenLane fun t =>
    if t.lane.state = .held ∧ t.lane.asked = none then t.askReclaim else t)

/-- A QUEUED answer for the record's visit, by lane state (R72). -/
def State.ticketQueued (s : State) : State :=
  let t := { s with lane := { s.lane with ticketed := true, record := { s.lane.record with progress := .released } } }
  if s.lane.state = .ticketing then t.depart else t

/-- A ticket answer for the record's visit, by lane state (R72). DESIGN CHOICE: a QUEUED answer that finds the lane in
REVERSING changes nothing (log 58). -/
def State.takeTicketAnswer (s : State) (result : TicketResult) : State :=
  match s.lane.state, result with
  | .ticketing, .queued _ => s.ticketQueued
  | .assist, .queued _ => s.ticketQueued
  | .departing, .queued _ => s.ticketQueued
  | .ticketing, .refused => s.enterAssist .ticketsExhausted
  | _, _ => s

/-- TICKET_ANSWER (R72, R131). -/
def execTicketAnswer (number : VisitNumber) (result : TicketResult) (s : State) : Result :=
  .next ((s.took (.ticketAnswer number result)).whenLane fun t =>
    if t.lane.record.visitRef = some number then t.takeTicketAnswer result else t)

/-- LANE_PRINTER_STATE: PAPER-OUT or FAULT raises help in TICKETING (R54, R72, R135). -/
def execLanePrinterState (printer : PrinterState) (s : State) : Result :=
  .next ((s.took (.lanePrinterState printer)).whenLane fun t =>
    if t.lane.state = .ticketing ∧ (printer = .paperOut ∨ printer = .fault) then t.raiseHelp .printer else t)

/-- CLEAR_DECK_LIMIT_EXPIRY: help with reason CLEAR-DECK; the limit is not restarted (R74). -/
def execClearDeckLimitExpiry (s : State) : Result :=
  .next (s.whenLane fun s =>
    if s.lane.clearDeckLimit.isSome ∧ s.lane.state = .departing then
      ({ s with lane := { s.lane with clearDeckLimit := none } }).raiseHelp .clearDeck
    else s)

/-- LANE_HELP_PRESS (R38, R54). -/
def execLaneHelpPress (s : State) : Result :=
  .next ((s.took .laneHelpPress).whenLane fun t => t.raiseHelp .helpButton)

/-! ### The calibration hold (R87) -/

/-- The lane's answer to a hold request. -/
def State.answerHold (s : State) (granted : Bool) : State :=
  { s with answers := { s.answers with hold := some granted } }

/-- The hold is granted: the flag is set, the sign is STOP, CAL-HOLD is sent; the measurement starts (R87, R177). -/
def State.grantHold (s : State) : State :=
  let t := (({ s with lane := { s.lane with calHold := true, sign := .stop } }).answerHold true).post .calHold
  match t.cal.inHand with
  | some h => if h.stage = .awaitingHold then t.startMeasuring h.request else t
  | none => t

/-- The hold is refused: the service line answer is LANE-BUSY, with nothing in hand (R87, R177). -/
def State.refuseHold (s : State) : State :=
  let t := s.answerHold false
  match t.cal.inHand with
  | some h =>
    if h.stage = .awaitingHold then ({ t with cal := { t.cal with inHand := none } }).answer .laneBusy else t
  | none => t

/-- CAL_HOLD_REQUEST (R87, R177). -/
def execCalHoldRequest (s : State) : Result :=
  .next ((s.took .calHoldRequest).whenLane fun t => if t.lane.state = .idle then t.grantHold else t.refuseHold)

/-- CAL_HOLD_RELEASE (R87). -/
def execCalHoldRelease (s : State) : Result :=
  .next ((s.took .calHoldRelease).whenLane fun t =>
    if t.lane.calHold then
      ({ t with lane := { t.lane with calHold := false, sign := .blank } }).post .ready
    else t)

end Sys2Proof.Machine
end

