-- ==== Sys2Proof/Machine/Office.lean ====
section
/-! DEFINITION. The office commands of the lane controller: TOKEN to REPRINT, BARRIER_RESET, and a LANE-COMMAND of
a kind the station does not know (R49, R56, R80 to R86, R139). -/

namespace Sys2Proof.Machine

/-- A LANE-COMMAND addressed to this station is taken as `f` says; one for another station is passed over (R80). -/
def State.whenTarget (s : State) (target : Byte) (f : State → State) : State :=
  s.whenLane fun s => if target.toNat = s.own.val then f s else s

/-- A command refused: recorded with REFUSED, and a LANE-STATUS placed; nothing else changes (R80). -/
def State.refuse (s : State) (c : OfficeCommand) : State := (s.recordCommand c .refused).report

/-- A command taken that changes no lane state: recorded with its result, and a LANE-STATUS placed (R80, R88). -/
def State.reportCommand (s : State) (c : OfficeCommand) (r : CommandResult) : State := (s.recordCommand c r).report

/-- The record's token replaced by the office's, with MANUAL-TOKEN set (R81). -/
def State.manualToken (s : State) (token : Token) : State :=
  s.withRecord { s.lane.record with token := some token, manual := true }

/-- TOKEN in ASSIST UNMATCHED: the lookup of R68 again with the held capture (R81). Where its close waits for
room the lane state has not changed, and a LANE-STATUS reports the command (R88; log 18). -/
def State.lookupAgain (s : State) (token : Token) : State :=
  let t := (s.withdraw.manualToken token).doLookup
  if t.lane.asked.isSome then t.report else t

/-- TOKEN with a token in range, by lane state (R80, R81). -/
def State.takeToken (s : State) (token : Token) : State :=
  if s.awaitsToken then
    let t := (s.recordCommand .token .done).manualToken token
    ({ t with lane := { t.lane with idWait := none } }).raiseToBoard
  else if s.lane.state = .assist ∧ s.lane.record.assist = some .unmatched then
    (s.recordCommand .token .done).lookupAgain token
  else s.refuse .token

/-- TOKEN (R64, R80, R81). -/
def execToken (target : Byte) (argument : List Byte) (s : State) : Result :=
  .next ((s.took (.token target argument)).whenTarget target fun t =>
    match decodeToken argument with
    | some token => t.takeToken token
    | none => t.refuse .token)

/-- The category replaced (R81). -/
def State.withCategory (s : State) (c : Category) : State := s.withRecord { s.lane.record with category := some c }

/-- CATEGORY in ASSIST CATEGORY-CLOSED: refused where the store answers CLOSED (R81). -/
def State.reopenCategory (s : State) (c : Category) : State :=
  let t := s.askClosed c
  if s.isClosed c then t.refuse .category else ((t.recordCommand .category .done).withCategory c).enterWeighing

/-- CATEGORY with a category in range, by lane state (R80, R81). -/
def State.takeCategory (s : State) (c : Category) : State :=
  if s.lane.record.direction ≠ some .inbound then s.refuse .category
  else if s.lane.state = .weighing ∧ s.lane.asked = none then (s.withCategory c).reportCommand .category .done
  else if s.lane.state = .assist ∧ s.lane.record.assist = some .categoryClosed then s.reopenCategory c
  else s.refuse .category

/-- CATEGORY (R80, R81). -/
def execCategory (target : Byte) (argument : List Byte) (s : State) : Result :=
  .next ((s.took (.category target argument)).whenTarget target fun t =>
    match argumentCategory argument with
    | some c => t.takeCategory c
    | none => t.refuse .category)

/-- RETRY from progress NONE (R79). -/
def State.retryFresh (s : State) : State :=
  if s.lane.record.boarded then (s.recordCommand .retry .done).enterWeighing
  else if s.lane.record.token.isSome then (s.recordCommand .retry .done).raiseToBoard
  else s.refuse .retry

/-- RETRY in ASSIST with no frame waiting, by progress (R79). DESIGN CHOICE: progress CLAIM-OUT is a re-claim whether
or not ASSIST was entered from HELD (log 46), and a RETRY that asks for a frame again is reported in a LANE-STATUS of its
own, in ASSIST (log 55). -/
def State.resume (s : State) : State :=
  let taken := s.recordCommand .retry .done
  match s.lane.record.progress, s.lane.record.kind with
  | .none, _ => s.retryFresh
  | .claimDropped, _ => taken.askReclaim.report
  | .claimOut, _ => taken.askReclaim.report
  | .closeDropped, _ => taken.askCloseAgain.report
  | .admitted, some .storedTare => taken.startIssue
  | .closed, some .twoPass => taken.startIssue
  | .released, _ => taken.depart
  | _, _ => s.refuse .retry

/-- RETRY (R79, R80). DESIGN CHOICE: it is refused while any frame that the lane asked for in ASSIST waits, the close of a
TOKEN among them (log 59). -/
def execRetry (target : Byte) (argument : List Byte) (s : State) : Result :=
  .next ((s.took (.retry target argument)).whenTarget target fun t =>
    if t.lane.state = .assist ∧ t.lane.asked = none then t.resume else t.refuse .retry)

/-- A BACK or PASS is held in CLAIMING or CLOSING; one that it replaces is reported refused (R84). DESIGN CHOICE: the
one replaced is reported first, in a LANE-STATUS that carries no pending command, and the new one in a second (log 49). -/
def State.hold (s : State) (c : HeldCommand) : State :=
  let t := match s.lane.record.pendingCommand with
    | some p => (s.clearPending).reportCommand p.command .refused
    | none => s
  (t.withRecord { t.lane.record with pendingCommand := some c }).reportCommand c.command .accepted

/-- The near end that BACK and PASS set in DECK-BLOCKED: the yard end on an EXIT deck, the road end otherwise
(R86). -/
def State.blockedNear (s : State) : End := if s.loader.role = .exit then s.yardEnd else s.cfg.roadEnd

/-- Near and far set as the role gives (R86). -/
def State.setBlockedEnds (s : State) : State := s.withRecord { s.lane.record with near := some s.blockedNear }

/-- PASS, by lane state (R80, R82, R84, R86). -/
def State.takePass (s : State) : State :=
  match s.lane.state with
  | .claiming => s.hold .pass
  | .closing => s.hold .pass
  | .assist => (s.recordCommand .pass .done).applyPass
  | .held => (s.recordCommand .pass .done).applyPass
  | .ticketing => (s.recordCommand .pass .done).applyPass
  | .deckBlocked => ((s.recordCommand .pass .done).setBlockedEnds).applyPass
  | _ => s.refuse .pass

/-- PASS (R80, R82, R84, R86). -/
def execPass (target : Byte) (argument : List Byte) (s : State) : Result :=
  .next ((s.took (.pass target argument)).whenTarget target fun t => t.takePass)

/-- BACK, by lane state (R80, R83, R84, R86). -/
def State.takeBack (s : State) : State :=
  match s.lane.state with
  | .claiming => s.hold .back
  | .closing => s.hold .back
  | .approach => (s.recordCommand .back .done).applyBack
  | .boarding => (s.recordCommand .back .done).applyBack
  | .weighing => (s.recordCommand .back .done).applyBack
  | .held => (s.recordCommand .back .done).applyBack
  | .assist => (s.recordCommand .back .done).applyBack
  | .deckBlocked => ((s.recordCommand .back .done).setBlockedEnds).applyBack
  | _ => s.refuse .back

/-- BACK (R80, R83, R84, R86). -/
def execBack (target : Byte) (argument : List Byte) (s : State) : Result :=
  .next ((s.took (.back target argument)).whenTarget target fun t => t.takeBack)

/-- ZERO, RAISE and LOWER are taken in IDLE and ASSIST (R80). -/
def State.idleOrAssist (s : State) : Bool := s.lane.state == .idle || s.lane.state == .assist

/-- ZERO: passed to the weighing channel, whose answer is recorded and reported when it comes (R85, R88; log 25). -/
def execZero (target : Byte) (argument : List Byte) (s : State) : Result :=
  .next ((s.took (.zero target argument)).whenTarget target fun t =>
    if t.idleOrAssist then t.post .zeroTest else t.refuse .zero)

/-- The answer of a barrier unit as a command's result (R80, R85). -/
def barrierAnswer (accepted : Bool) : CommandResult := if accepted then .accepted else .refused

/-- RAISE (R80, R85). -/
def execRaise (target : Byte) (argument : List Byte) (s : State) : Result :=
  .next ((s.took (.raise target argument)).whenTarget target fun t =>
    match argumentEnd argument with
    | none => t.refuse .raise
    | some e =>
      if t.idleOrAssist then (t.raiseBarrier e).1.reportCommand .raise (barrierAnswer (t.raiseBarrier e).2)
      else t.refuse .raise)

/-- LOWER (R80, R85). -/
def execLower (target : Byte) (argument : List Byte) (s : State) : Result :=
  .next ((s.took (.lower target argument)).whenTarget target fun t =>
    match argumentEnd argument with
    | none => t.refuse .lower
    | some e =>
      if t.idleOrAssist then (t.lowerBarrier e).1.reportCommand .lower (barrierAnswer (t.lowerBarrier e).2)
      else t.refuse .lower)

/-- HELP_ACK (R56, R80). -/
def execHelpAck (target : Byte) (argument : List Byte) (s : State) : Result :=
  .next ((s.took (.helpAck target argument)).whenTarget target fun t =>
    if t.lane.help = .pending then
      ({ t with lane := { t.lane with help := .acknowledged } }).reportCommand .helpAck .done
    else t.refuse .helpAck)

/-- BARRIER_RESET (R49, R80). -/
def execBarrierReset (target : Byte) (argument : List Byte) (s : State) : Result :=
  .next ((s.took (.barrierReset target argument)).whenTarget target fun t =>
    match argumentEnd argument with
    | none => t.refuse .barrierReset
    | some e => (t.resetBarrier e).1.reportCommand .barrierReset (t.resetBarrier e).2)

/-- REPRINT (R80, R139). -/
def execReprint (target : Byte) (argument : List Byte) (s : State) : Result :=
  .next ((s.took (.reprint target argument)).whenTarget target fun t =>
    t.reprint.1.reportCommand .reprint t.reprint.2)

/-- A LANE-COMMAND of a kind the station does not know is refused in every state (R80; log 12). -/
def State.unknownCommand (s : State) (target code : Byte) : State :=
  s.whenTarget target fun s => s.refuse (.unknown code)

end Sys2Proof.Machine
end

