-- ==== Sys2Proof/Machine/Peers.lean ====
section
/-! DEFINITION. The peer monitor and the depot clock: PEER_HEARD to CLOCK_TICK (chapter 9). ENTER_JOINING stands
with start-up, the announce cursor with the visit table unit. -/

namespace Sys2Proof.Machine

/-- PEER_HEARD: the source is LIVE, and its time since last heard 0 (R162). -/
def execPeerHeard (source : Station) (s : State) : Result :=
  .next ((s.took (.peerHeard source)).whenYard fun t =>
    { t with peers := t.peers.setPeer source { t.peers.table[source] with state := .live, sinceHeard := 0 } })

/-- The role byte of HELLO and PRESENCE names ENTRY, EXIT or BOTH (R162). -/
def roleByteOk (b : Byte) : Bool := b.toNat ≤ 2

/-- A HELLO passes the check of R162. -/
def helloOk (source : Station) (payload : List Byte) : Bool :=
  source != 0 && payload.length == 5 && roleByteOk (byteAt payload 4)

/-- A PRESENCE passes the check of R162 (log 28). -/
def presenceOk (source : Station) (payload : List Byte) : Bool :=
  source != 0 && payload.length == 21 && roleByteOk (byteAt payload 4) &&
    (byteAt payload 5 == 1#8 || byteAt payload 5 == 2#8) && decide ((byteAt payload 6).toNat ≤ 11) &&
    decide ((byteAt payload 7).toNat ≤ 96)

/-- The boot count that HELLO and PRESENCE carry. -/
def carriedBootCount (payload : List Byte) : Nat := fromBe (field payload 0 4)

/-- A peer's report is recorded, and a starting event given to the visit table unit, while the station is
ACTIVE (R162, R164). -/
def State.recordPeer (s : State) (source : Station) (bootCount : Nat) (active starts : Bool) : State :=
  ({ s with peers := s.peers.setPeer source { s.peers.table[source] with
      bootCount := some bootCount, reportedActive := some active } }).postIf (s.active && starts) (.cursorStart source)

/-- HELLO (R162, R164). -/
def execHello (source : Station) (payload : List Byte) (s : State) : Result :=
  .next ((s.took (.hello source payload)).whenYard fun t =>
    if helloOk source payload then t.recordPeer source (carriedBootCount payload) false true else t.countMalformed)

/-- The boot count carried differs from the one recorded, where one was recorded (R164). -/
def bootCountChanged (recorded : Option Nat) (carried : Nat) : Bool :=
  match recorded with
  | some b => b != carried
  | none => false

/-- PRESENCE (R162, R164). -/
def execPresence (source : Station) (payload : List Byte) (s : State) : Result :=
  .next ((s.took (.presence source payload)).whenYard fun t =>
    if presenceOk source payload then
      t.recordPeer source (carriedBootCount payload) (byteAt payload 5 == 2#8)
        (bootCountChanged t.peers.table[source].bootCount (carriedBootCount payload))
    else t.countMalformed)

/-- The clock after a TIME-SET payload; one whose second is 86,400 or more is ignored (R169). -/
def clockAfterSet (payload : List Byte) (clock : Option DepotTime) : Option DepotTime :=
  let second := fromBe (field payload 2 3)
  if second < 86400 then some ⟨fromBe (field payload 0 2), second⟩ else clock

/-- TIME_SET (R169). -/
def execTimeSet (payload : List Byte) (s : State) : Result :=
  .next ((s.took (.timeSet payload)).whenYard fun t =>
    if payload.length = 5 then { t with peers := { t.peers with clock := clockAfterSet payload t.peers.clock } }
    else t.countMalformed)

/-- JOIN_WINDOW_EXPIRY: the station is ACTIVE, and the lane controller and the visit table unit are told (R159,
R160). -/
def execJoinWindowExpiry (s : State) : Result :=
  .next (s.whenLive fun s =>
    if s.peers.joinWindow.isSome then
      (({ s with
          peers := { s.peers.setPeer s.own { s.peers.table[s.own] with reportedActive := some true } with
            station := .active, joinWindow := none } }).post .stationActive).post .cursorEnable
    else s)

/-- HEARTBEAT_EXPIRY: a PRESENCE is placed, or not sent where the ROUTINE queue is FULL; the timer starts again
(R168, R153). -/
def execHeartbeatExpiry (s : State) : Result :=
  .next (s.whenLive fun s =>
    if s.peers.heartbeat.isSome then
      let t := (s.place (presenceFrame s)).1
      { t with peers := { t.peers with heartbeat := some t.cfg.heartbeat } }
    else s)

/-- An entry after a tick: a LIVE or SILENT one is a second older, and a LIVE one whose time reaches K × H is
SILENT (R163). -/
def Peer.aged (limit : Nat) (p : Peer) : Peer :=
  match p.state with
  | .unknown => p
  | .silent => { p with sinceHeard := satSucc p.sinceHeard }
  | .live =>
    { p with
      sinceHeard := satSucc p.sinceHeard
      state := if limit ≤ satSucc p.sinceHeard then .silent else .live }

/-- The table after a tick: every entry but the own one ages (R163). -/
def agedTable (own : Station) (limit : Nat) (table : Vector Peer 16) : Vector Peer 16 :=
  Vector.ofFn fun n : Fin 16 => if n = own then table[n] else table[n].aged limit

/-- PEER_TICK (R163). -/
def execPeerTick (s : State) : Result :=
  .next (s.whenLive fun s =>
    if s.peers.ticking then
      { s with peers := { s.peers with table := agedTable s.own (s.cfg.silence * s.cfg.heartbeat) s.peers.table } }
    else s)

/-- The depot time one second on (R170). -/
def clockSecondOn (t : DepotTime) : DepotTime :=
  if t.second + 1 < 86400 then { t with second := t.second + 1 } else ⟨(t.day + 1) % 65536, 0⟩

/-- CLOCK_TICK: a clock that is NOT-SET does not run (R170). -/
def execClockTick (s : State) : Result :=
  .next (s.whenLive fun s => { s with peers := { s.peers with clock := s.peers.clock.map clockSecondOn } })

end Sys2Proof.Machine
end

