-- ==== Sys2Proof/Machine/Dispatch.lean ====
section
/-! DEFINITION. The meaning of every command: one arm per row of spec/opcode_table.json. -/

namespace Sys2Proof.Machine

def exec (i : Instr) (s : State) : Host.Outcome State Fault Refusal :=
  match i with
  | .reset number role commitCompletes => Sys2Proof.Machine.execReset number role commitCompletes s
  | .bootCountCommitDone => Sys2Proof.Machine.execBootCountCommitDone s
  | .configByte byte => Sys2Proof.Machine.execConfigByte byte s
  | .configByteTimeout => Sys2Proof.Machine.execConfigByteTimeout s
  | .firstScan => Sys2Proof.Machine.execFirstScan s
  | .firstSample => Sys2Proof.Machine.execFirstSample s
  | .calStartCheck => Sys2Proof.Machine.execCalStartCheck s
  | .enterJoining => Sys2Proof.Machine.execEnterJoining s
  | .printerLimitStart => Sys2Proof.Machine.execPrinterLimitStart s
  | .sample message => Sys2Proof.Machine.execSample message s
  | .channelAnswerLimitExpiry => Sys2Proof.Machine.execChannelAnswerLimitExpiry s
  | .windowEmptyBeam => Sys2Proof.Machine.execWindowEmptyBeam s
  | .zeroTest => Sys2Proof.Machine.execZeroTest s
  | .rawInputChange input level => Sys2Proof.Machine.execRawInputChange input level s
  | .debounceExpiry input => Sys2Proof.Machine.execDebounceExpiry input s
  | .ready => Sys2Proof.Machine.execReady s
  | .calHold => Sys2Proof.Machine.execCalHold s
  | .upLimitActivation e => Sys2Proof.Machine.execUpLimitActivation e s
  | .downLimitActivation e => Sys2Proof.Machine.execDownLimitActivation e s
  | .limitRelease e limit => Sys2Proof.Machine.execLimitRelease e limit s
  | .barrierSafetyActivation e => Sys2Proof.Machine.execBarrierSafetyActivation e s
  | .barrierSafetyRelease e => Sys2Proof.Machine.execBarrierSafetyRelease e s
  | .motorFaultActivation e => Sys2Proof.Machine.execMotorFaultActivation e s
  | .motorFaultRelease e => Sys2Proof.Machine.execMotorFaultRelease e s
  | .travelTimerExpiry e => Sys2Proof.Machine.execTravelTimerExpiry e s
  | .barrierReset target argument => Sys2Proof.Machine.execBarrierReset target argument s
  | .flashTick => Sys2Proof.Machine.execFlashTick s
  | .laneStartReport presence inputs armed => Sys2Proof.Machine.execLaneStartReport presence inputs armed s
  | .laneApproachOffer near direction => Sys2Proof.Machine.execLaneApproachOffer near direction s
  | .idWaitExpiry => Sys2Proof.Machine.execIdWaitExpiry s
  | .readerMessage message => Sys2Proof.Machine.execReaderMessage message s
  | .lanePresenceChanged presence => Sys2Proof.Machine.execLanePresenceChanged presence s
  | .laneSafetyLoopEvent e active => Sys2Proof.Machine.execLaneSafetyLoopEvent e active s
  | .laneBeamEvent e active => Sys2Proof.Machine.execLaneBeamEvent e active s
  | .laneBarrierArrival e place => Sys2Proof.Machine.execLaneBarrierArrival e place s
  | .laneBarrierFault e reason => Sys2Proof.Machine.execLaneBarrierFault e reason s
  | .capture weight => Sys2Proof.Machine.execCapture weight s
  | .laneConverterFailed => Sys2Proof.Machine.execLaneConverterFailed s
  | .stabilityLimitExpiry => Sys2Proof.Machine.execStabilityLimitExpiry s
  | .stationActive => Sys2Proof.Machine.execStationActive s
  | .laneFramePlaced kind number => Sys2Proof.Machine.execLaneFramePlaced kind number s
  | .claimOutcome number result => Sys2Proof.Machine.execClaimOutcome number result s
  | .closeOutcome number result => Sys2Proof.Machine.execCloseOutcome number result s
  | .removalReport number => Sys2Proof.Machine.execRemovalReport number s
  | .ticketAnswer number result => Sys2Proof.Machine.execTicketAnswer number result s
  | .lanePrinterState printer => Sys2Proof.Machine.execLanePrinterState printer s
  | .clearDeckLimitExpiry => Sys2Proof.Machine.execClearDeckLimitExpiry s
  | .laneHelpPress => Sys2Proof.Machine.execLaneHelpPress s
  | .calHoldRequest => Sys2Proof.Machine.execCalHoldRequest s
  | .calHoldRelease => Sys2Proof.Machine.execCalHoldRelease s
  | .token target argument => Sys2Proof.Machine.execToken target argument s
  | .category target argument => Sys2Proof.Machine.execCategory target argument s
  | .retry target argument => Sys2Proof.Machine.execRetry target argument s
  | .pass target argument => Sys2Proof.Machine.execPass target argument s
  | .back target argument => Sys2Proof.Machine.execBack target argument s
  | .zero target argument => Sys2Proof.Machine.execZero target argument s
  | .raise target argument => Sys2Proof.Machine.execRaise target argument s
  | .lower target argument => Sys2Proof.Machine.execLower target argument s
  | .helpAck target argument => Sys2Proof.Machine.execHelpAck target argument s
  | .reprint target argument => Sys2Proof.Machine.execReprint target argument s
  | .visitOpen source payload => Sys2Proof.Machine.execVisitOpen source payload s
  | .visitClose source payload => Sys2Proof.Machine.execVisitClose source payload s
  | .visitVoid payload => Sys2Proof.Machine.execVisitVoid payload s
  | .visitAnnounce payload => Sys2Proof.Machine.execVisitAnnounce payload s
  | .claimRequest claim => Sys2Proof.Machine.execClaimRequest claim s
  | .reclaim frame => Sys2Proof.Machine.execReclaim frame s
  | .closeRequest number => Sys2Proof.Machine.execCloseRequest number s
  | .frameWithdraw => Sys2Proof.Machine.execFrameWithdraw s
  | .lookup token => Sys2Proof.Machine.execLookup token s
  | .visitQueueDeparture => Sys2Proof.Machine.execVisitQueueDeparture s
  | .cursorEnable => Sys2Proof.Machine.execCursorEnable s
  | .cursorStart joiner => Sys2Proof.Machine.execCursorStart joiner s
  | .cursorAdvance => Sys2Proof.Machine.execCursorAdvance s
  | .tareSet payload => Sys2Proof.Machine.execTareSet payload s
  | .tareDrop payload => Sys2Proof.Machine.execTareDrop payload s
  | .tariffSet payload => Sys2Proof.Machine.execTariffSet payload s
  | .categoryResolution token reader => Sys2Proof.Machine.execCategoryResolution token reader s
  | .closedQuestion category => Sys2Proof.Machine.execClosedQuestion category s
  | .kindRequest token category => Sys2Proof.Machine.execKindRequest token category s
  | .issue request => Sys2Proof.Machine.execIssue request s
  | .issueWithdraw number => Sys2Proof.Machine.execIssueWithdraw number s
  | .ticketCommitDone => Sys2Proof.Machine.execTicketCommitDone s
  | .bulkQueueDeparture => Sys2Proof.Machine.execBulkQueueDeparture s
  | .printerReady => Sys2Proof.Machine.execPrinterReady s
  | .printerDone => Sys2Proof.Machine.execPrinterDone s
  | .printerBusy => Sys2Proof.Machine.execPrinterBusy s
  | .printerPaperOut => Sys2Proof.Machine.execPrinterPaperOut s
  | .printerFault => Sys2Proof.Machine.execPrinterFault s
  | .printerAnswerLimitExpiry => Sys2Proof.Machine.execPrinterAnswerLimitExpiry s
  | .lineFree => Sys2Proof.Machine.execLineFree s
  | .frameStartHeard => Sys2Proof.Machine.execFrameStartHeard s
  | .arbitrationLost => Sys2Proof.Machine.execArbitrationLost s
  | .readbackMismatch => Sys2Proof.Machine.execReadbackMismatch s
  | .delivery => Sys2Proof.Machine.execDelivery s
  | .frameEnd frame => Sys2Proof.Machine.execFrameEnd frame s
  | .peerHeard source => Sys2Proof.Machine.execPeerHeard source s
  | .hello source payload => Sys2Proof.Machine.execHello source payload s
  | .presence source payload => Sys2Proof.Machine.execPresence source payload s
  | .timeSet payload => Sys2Proof.Machine.execTimeSet payload s
  | .joinWindowExpiry => Sys2Proof.Machine.execJoinWindowExpiry s
  | .heartbeatExpiry => Sys2Proof.Machine.execHeartbeatExpiry s
  | .peerTick => Sys2Proof.Machine.execPeerTick s
  | .clockTick => Sys2Proof.Machine.execClockTick s
  | .calRead => Sys2Proof.Machine.execCalRead s
  | .status => Sys2Proof.Machine.execStatus s
  | .calZero => Sys2Proof.Machine.execCalZero s
  | .calSpan mass => Sys2Proof.Machine.execCalSpan mass s
  | .calCorner channel factor => Sys2Proof.Machine.execCalCorner channel factor s
  | .calInterval interval capacity => Sys2Proof.Machine.execCalInterval interval capacity s
  | .calLock => Sys2Proof.Machine.execCalLock s
  | .calErase => Sys2Proof.Machine.execCalErase s
  | .calScan sample => Sys2Proof.Machine.execCalScan sample s
  | .calInterrupt cause => Sys2Proof.Machine.execCalInterrupt cause s
  | .calCommitDone => Sys2Proof.Machine.execCalCommitDone s
  | .routineQueueDeparture => Sys2Proof.Machine.execRoutineQueueDeparture s
  | .nearApproachRelease e => Sys2Proof.Machine.execNearApproachRelease e s
  | .badServiceRequest => Sys2Proof.Machine.execBadServiceRequest s

end Sys2Proof.Machine
end

