-- ==== Sys2Proof/Machine/Delivery.lean ====
section
/-! DEFINITION. The taking of events that blocks have given: what the station does when no command waits (log 1). -/

namespace Sys2Proof.Machine

/-- The oldest event given and not yet taken is taken; with none given, the block idles (log 1). -/
def State.takePosted (s : State) : Result :=
  match s.posted with
  | [] => .next s
  | .event i :: _ => exec i s
  | .unknownCommand target code :: rest => .next (({ s with posted := rest }).unknownCommand target code)

end Sys2Proof.Machine
end

