-- ==== Sys2Proof/Safety.lean ====
section
/-! DEFINITION. What counts as a safe run: the invariants that every step keeps, block by block. Each says of every
reachable state what the spec says never fails. -/

namespace Sys2Proof.Machine

/-- A transmit queue within its depth, its attempt count below that of a drop (R146, R148, R152). -/
def TxQueue.ok (q : TxQueue) (depth : Nat) : Prop := q.frames.length ≤ depth ∧ q.attempts < 4

/-- The link controller: no transmit queue exceeds its depth (R152), no attempt count reaches 4 and stays (R146), and
the link counts are held at 65,535 (R157). -/
structure LinkState.Inv (l : LinkState) : Prop where
  urgent         : l.urgent.ok 4
  visit          : l.visit.ok 8
  routine        : l.routine.ok 8
  bulk           : l.bulk.ok 16
  badCheck       : l.badCheck ≤ 65535
  drops          : l.drops ≤ 65535
  malformed      : l.malformed ≤ 65535
  statusDiscards : l.statusDiscards ≤ 65535
  helpLost       : l.helpLost ≤ 65535

/-- The visit table: at most 96 visits, no two with one number, no two with one token (R93), with the counts held at
65,535 (R110), the own sequence in 1 to 4,095 (R92) and the epoch in 0 to 255 (R91). -/
structure VisitState.Inv (v : VisitState) : Prop where
  count     : v.table.length ≤ 96
  numbers   : (v.table.map (·.number)).Nodup
  tokens    : (v.table.map (·.claim.token)).Nodup
  unmatched : v.unmatched ≤ 65535
  conflicts : v.conflicts ≤ 65535
  sequence  : 1 ≤ v.sequence ∧ v.sequence ≤ 4095
  epoch     : v.epoch < 256

/-- The visit table of the station, whose yard limit is at most 96 (R93). -/
def State.visitInv (s : State) : Prop := s.visits.Inv ∧ s.cfg.yardLimit ≤ 96

/-- The ticket queue never holds more than 4 tickets, a place held for a commit among them (R131, R133). -/
def State.ticketInv (s : State) : Prop := s.tickets.placesTaken ≤ 4

/-- A barrier unit: the travel timer runs in RISING and FALLING only (R46), a LOWER is pending in RISING and UP only
(R42), and a fault reason stands in FAULT and nowhere else (R40). -/
structure BarrierUnit.Inv (b : BarrierUnit) : Prop where
  timer   : b.travel.isSome = true → b.state = .rising ∨ b.state = .falling
  pending : b.lowerPending = true → b.state = .rising ∨ b.state = .up
  reason  : b.reason.isSome = true ↔ b.state = .fault

/-- Both barrier units. -/
def State.barrierInv (s : State) : Prop := s.barrierA.Inv ∧ s.barrierB.Inv

/-- The zero offset is 0 whenever the zero state is UNSET (1.7), and the monitor's counts are at most 16 and
3 (R4). -/
structure WeighState.Inv (w : WeighState) : Prop where
  unset  : w.zeroSet = false → w.zero = 0
  goods  : w.goodCount ≤ 16
  faults : w.faultCount ≤ 3

/-- The zero offset lies within 20 × Max grams, Max as the calibration record holds it (1.7). -/
def State.zeroInv (s : State) : Prop := (s.weigh.zero.natAbs : Int) ≤ zeroRangeOf s.retained.cal.capacity

/-- The stored tare table holds at most 64 records (R113). -/
def State.tareInv (s : State) : Prop := s.store.tares.length ≤ 64

/-- The orphan admission count is held at 65,535 (R59). -/
def State.orphanInv (s : State) : Prop := s.lane.orphans ≤ 65535

/-- The own entry of the peer table is always LIVE (R161). -/
def State.ownEntryInv (s : State) : Prop := (s.peers.table[s.own]).state = .live

/-- The depot clock, where it is set, lies in its range (R169, R170). -/
def State.clockInv (s : State) : Prop := ∀ t, s.peers.clock = some t → t.valid = true

/-- The invariants of every block together. -/
structure State.Inv (s : State) : Prop where
  link     : s.link.Inv
  visits   : s.visitInv
  tickets  : s.ticketInv
  barriers : s.barrierInv
  weigh    : s.weigh.Inv
  zero     : s.zeroInv
  tares    : s.tareInv
  orphans  : s.orphanInv
  own      : s.ownEntryInv
  clock    : s.clockInv

/-- A step answers a next state. -/
def completes (r : Result) : Prop := ∃ t, r = .next t

end Sys2Proof.Machine
end

