-- ==== Sys2Proof/Certificates/Slice0/Obligations.lean ====
section
/-! DEFINITION. The statements for the provers. Each is a rule of the spec, or a part of one, about what a command or
the station does; where one rests on a choice of the model, its docstring names the log entry. -/

open Sys2Proof Sys2Proof.Machine

/-! ### The machine: steps, reset, ownership -/

/-- A step runs the command at the front of the queue on the state with the rest of the queue; with none waiting it
takes the oldest event given, and with none of these it idles. The queue, the events given and the idling are the
model's (logs 1, 2, 12). -/
def Obligations.StepTakesFrontCommand : Prop :=
  (∀ (c : Instr) (rest : List Instr) (s : State),
      step { s with pending := c :: rest } = exec c { s with pending := rest }) ∧
  (∀ (i : Instr) (rest : List Posted) (s : State), s.pending = [] → s.posted = .event i :: rest → step s = exec i s) ∧
  (∀ (target code : Byte) (rest : List Posted) (s : State), s.pending = [] →
      s.posted = .unknownCommand target code :: rest →
      step s = .next (({ s with posted := rest }).unknownCommand target code)) ∧
  (∀ s : State, s.pending = [] → s.posted = [] → step s = .next s)

/-- No command stops the station, and none changes the commands that wait behind it (logs 1, 34). -/
def Obligations.EveryCommandCompletesAndKeepsTheQueue : Prop :=
  ∀ (i : Instr) (s : State), ∃ t, exec i s = .next t ∧ t.pending = s.pending

/-- What RESET leaves (R185, R187, and the reset rules of the blocks): the straps are read; the running commit is whole
or not at all and those behind it are lost; the boot count commit runs; a station OFFLINE by its straps is OFFLINE; all
else is as at reset. These are the model's: that the commands waiting stay, the events given are dropped, and an operand
says how the running commit ends (log 8); that the field lines stand (log 5); a barrier DOWN before the first sample
(log 6); the other reset values that no rule gives (log 7); JOINING as the station state already, and in the own entry of the
peer table, where the straps do not give OFFLINE (log 42); and a time of 0 in that entry, with no reported station state
on an OFFLINE station (log 51). -/
def Obligations.ResetStartsEveryBlock : Prop :=
  ∀ (number : BitVec 4) (role : BitVec 2) (completes : Bool) (s : State),
    let byStraps : Prop := role = 3#2 ∨ number = 0#4
    let started (r : Retained) : State :=
      { State.reset with
        loader := {
          station := number.toFin
          role := if role = 0#2 then .entry else if role = 1#2 then .exit else if role = 2#2 then .both else .offline }
        retained := { r with commits := [.bootCount ((r.bootCount + 1) % 4294967296)] }
        deck := { lines := s.deck.lines }
        peers := {
          station := if byStraps then .offline else .joining
          table := (Vector.replicate 16 ({} : Peer)).set number.toFin {
            state := .live, reportedActive := if byStraps then none else some false } }
        pending := s.pending }
    (completes = false ∨ s.retained.commits = [] →
      exec (.reset number role completes) s = .next (started s.retained)) ∧
    (∀ c rest, completes = true → s.retained.commits = c :: rest →
      exec (.reset number role completes) s = .next (started (s.retained.complete c)))

/-- What the reset tables give (R22, R27, R50, R51, R53, R57, R59, R89, R93, R112, R113, R140, R152, R158, R161, R169,
R171 to R173), in the state that a new part starts from. That the straps of such a part read 0, which makes it OFFLINE,
is the model's (log 4), and so is the tariff, CLOSED before the configured rates come (log 7). -/
def Obligations.ResetStateIsAsTheBlocksGiveIt : Prop :=
  let s := State.reset
  (s.weigh.monitor = .warming ∧ s.weigh.goodCount = 0 ∧ s.weigh.faultCount = 0 ∧ s.weigh.zeroSet = false ∧
    s.weigh.zero = 0 ∧ s.weigh.zeroRange = false ∧ s.weigh.window = [] ∧ s.weigh.lastMass = none ∧
    s.weigh.current = .noWeight ∧ s.weigh.captureRequest = false ∧ s.weigh.lastScan = none) ∧
  (s.deck.timers = Vector.replicate 14 none ∧ s.deck.reportSent = false ∧ s.deck.choice = .shut ∧
    s.deck.lastNear = none ∧ s.deck.weightPresent = false) ∧
  (∀ e, (s.barrier e).redRequest = .on ∧ (s.barrier e).greenRequest = .off ∧ (s.barrier e).lowerPending = false) ∧
  (s.lane.help = .none ∧ s.lane.lastHelp = none ∧ s.lane.sign = .stop ∧ s.lane.orphans = 0 ∧ s.lane.record = {} ∧
    s.lane.lastCommand = none ∧ s.lane.calHold = false ∧ s.lane.idWait = none ∧ s.lane.stabilityLimit = none ∧
    s.lane.clearDeckLimit = none) ∧
  (s.visits.table = [] ∧ s.visits.sequence = 1 ∧ s.visits.slot = none ∧ s.visits.unmatched = 0 ∧
    s.visits.conflicts = 0) ∧
  (s.store.tares = [] ∧ ∀ c : Category, s.store.tariff[c] = none) ∧
  (s.tickets.queue = [] ∧ s.tickets.slot = none ∧ s.tickets.waiting = none ∧ s.tickets.last = none ∧
    s.tickets.printer = .absent) ∧
  (s.link.allEmpty = true ∧ s.link.pointer = 0 ∧ s.link.badCheck = 0 ∧ s.link.drops = 0 ∧ s.link.malformed = 0 ∧
    s.link.statusDiscards = 0 ∧ s.link.helpLost = 0 ∧ s.link.lineFree = false) ∧
  (s.peers.station = .offline ∧ s.peers.clock = none ∧
    ∀ n : Station, (s.peers.table[n]).state = if n = s.own then .live else .unknown) ∧
  (s.retained.cal.span = 65536 ∧ s.retained.cal.interval = 20 ∧ s.retained.cal.capacity = 60000 ∧
    s.retained.lockEngaged = false ∧ s.retained.unverified = true ∧ s.retained.audit = 0 ∧ s.retained.lastTicket = 0)

/-- The values that the retained store keeps change at a commit's completion or at a reset, and by no other command
(R187, R181); the straps are read at start-up only, and the values in force stand until the next reset (R185, R188). -/
def Obligations.RetainedValuesAndConfigurationHaveTheirWriters : Prop :=
  (∀ (i : Instr) (s t : State), exec i s = .next t → i ≠ .bootCountCommitDone → i ≠ .ticketCommitDone →
      i ≠ .calCommitDone → (∀ n r c, i ≠ .reset n r c) →
      { t.retained with commits := s.retained.commits } = s.retained ∧ s.retained.commits <+: t.retained.commits) ∧
  (∀ (i : Instr) (s t : State), exec i s = .next t → (∀ n r c, i ≠ .reset n r c) →
      t.loader.station = s.loader.station ∧ t.loader.role = s.loader.role ∧
      (s.loader.phase = .inForce → t.cfg = s.cfg))

/-! ### Start-up -/

/-- The completion of the boot count commit: the count stands, the peer monitor records it in the own entry, the visit
table unit takes its epoch from it modulo 256, and the loader begins to read the image (R186, R91, R188). The read of the
configuration memory (R188): a byte in its time is kept and the 10 ms start again; the 115th settles the values in force,
from the image where its check agrees and otherwise by default; a byte that does not come in time settles every value at
its default. The values go to every block at once: the station is OFFLINE by its straps or JOINING, in its own entry too
(R159, R161, R171), and the first events are given; the order in which they are given is the
model's (log 2), as each block begins in its own time. -/
def Obligations.BootCountAndConfigurationRead : Prop :=
  (∀ (s : State) (n : Nat) (rest : List Commit), s.retained.commits = .bootCount n :: rest →
      exec .bootCountCommitDone s = .next { s with
        retained := { s.retained with bootCount := n, commits := rest }
        visits := { s.visits with epoch := n % 256 }
        peers := { s.peers with table := s.peers.table.set s.own { s.peers.table[s.own] with bootCount := some n } }
        loader := { s.loader with phase := .reading, image := [], byteLimit := some 10 } }) ∧
  (∀ (s : State) (b : Byte), s.loader.phase = .reading →
      let image := s.loader.image ++ [b]
      let inForce (held : List Byte) (cfg : Settings) (byDefault : Bool) : State :=
        { s with
          cfg := cfg
          loader := { s.loader with phase := .inForce, image := held, byteLimit := none, configDefault := byDefault }
          store := { s.store with tariff := cfg.initialRates }
          flashLit := true
          lane := if s.offline then { s.lane with sign := .seeOffice } else s.lane
          peers := if s.offline then { s.peers with station := .offline } else { s.peers with
            station := .joining
            table := s.peers.table.set s.own { s.peers.table[s.own] with reportedActive := some false } }
          posted := s.posted ++
            ([.event .firstScan, .event .firstSample, .event .calStartCheck, .event .printerLimitStart] ++
              (if s.offline then [] else [.event .enterJoining])) }
      (image.length ≠ 115 → exec (.configByte b) s =
        .next { s with loader := { s.loader with image := image, byteLimit := some 10 } }) ∧
      (image.length = 115 → image.drop 113 = checkBytes (crc16 (image.take 113)) →
        exec (.configByte b) s = .next (inForce image (settingsOfImage image) false)) ∧
      (image.length = 115 → image.drop 113 ≠ checkBytes (crc16 (image.take 113)) →
        exec (.configByte b) s = .next (inForce image {} true)) ∧
      exec .configByteTimeout s = .next (inForce s.loader.image {} true))

/-- Every value taken from an image (R189, R156, R118) is that of its bytes in the layout of 11.3, clamped to its range,
and lies in its range whatever the image holds: a channel map of fewer than two CELL channels and a phase table that does
not name every queue are replaced, a rate above 999,999 is CLOSED, and a site name character outside 20h to 7Eh is a
space. -/
def Obligations.ConfiguredValuesLieInRange : Prop :=
  ∀ (image : List Byte),
    let c := settingsOfImage image
    let number (start len : Nat) : Nat := fromBe (field image start len)
    let clamped (start len lo hi : Nat) : Nat := max lo (min hi (number start len))
    let phase (p : Fin 16) : Nat := number 0x2D 4 / 4 ^ (15 - p.val) % 4
    let named := (∀ p, phase p ≠ 0) ∧ (∃ p, phase p = 1) ∧ (∃ p, phase p = 2) ∧ ∃ p, phase p = 3
    ((1 ≤ c.yardLimit ∧ c.yardLimit ≤ 96) ∧ (1 ≤ c.heartbeat ∧ c.heartbeat ≤ 10) ∧ (2 ≤ c.silence ∧ c.silence ≤ 15) ∧
      (1 ≤ c.joinWindow ∧ c.joinWindow ≤ 30) ∧ (4 ≤ c.windowLen ∧ c.windowLen ≤ 16) ∧ (1 ≤ c.band ∧ c.band ≤ 3) ∧
      (2 ≤ c.idWait ∧ c.idWait ≤ 60) ∧ (5 ≤ c.stabilityLimit ∧ c.stabilityLimit ≤ 120) ∧
      (10 ≤ c.clearDeckLimit ∧ c.clearDeckLimit ≤ 300) ∧ (2 ≤ c.travelLimit ∧ c.travelLimit ≤ 15) ∧
      (5 ≤ c.printerLimit ∧ c.printerLimit ≤ 60) ∧ (1 ≤ c.tareTolerance ∧ c.tareTolerance ≤ 50) ∧
      (∀ i : Fin 14, 20 ≤ (c.inputs[i]).debounce ∧ (c.inputs[i]).debounce ≤ 500) ∧
      2 ≤ (scanList c.channelMap).length ∧
      (∀ k : Category, ∀ r, c.initialRates[k] = some r → r ≤ 999999) ∧
      (∀ q : PhaseQueue, ∃ p : Fin 16, c.phaseTable[p] = q) ∧
      (image.length = 115 → c.siteName.length = 16) ∧ ∀ b ∈ c.siteName, 0x20 ≤ b.toNat ∧ b.toNat ≤ 0x7E) ∧
    (c.yardLimit = clamped 0x00 1 1 96 ∧ c.heartbeat = clamped 0x01 1 1 10 ∧ c.silence = clamped 0x02 1 2 15 ∧
      c.joinWindow = clamped 0x03 1 1 30 ∧ c.windowLen = clamped 0x04 1 4 16 ∧ c.band = clamped 0x05 1 1 3 ∧
      c.idWait = clamped 0x06 1 2 60 ∧ c.stabilityLimit = clamped 0x07 1 5 120 ∧
      c.clearDeckLimit = clamped 0x08 2 10 300 ∧ c.travelLimit = clamped 0x0A 1 2 15 ∧
      c.printerLimit = clamped 0x0B 1 5 60 ∧ (c.singlePass = true ↔ byteAt image 0x0C ≠ 0#8) ∧
      c.tareTolerance = clamped 0x0D 1 1 50 ∧ (c.roadEnd = .b ↔ byteAt image 0x0E ≠ 0#8) ∧
      (c.deckLoopFitted = true ↔ byteAt image 0x0F ≠ 0#8)) ∧
    (∀ i : Fin 14, c.inputs[i] =
      { activeHigh := decide (32768 ≤ number (0x10 + 2 * i.val) 2)
        debounce := max 20 (min 500 (number (0x10 + 2 * i.val) 2 % 512)) }) ∧
    (2 ≤ (scanList (byteAt image 0x2C)).length → c.channelMap = byteAt image 0x2C) ∧
    ((scanList (byteAt image 0x2C)).length < 2 → c.channelMap = 3#8) ∧
    (named → c.phaseFromImage = true ∧ ∀ p : Fin 16, c.phaseTable[p] =
      if phase p = 1 then .visit else if phase p = 2 then .routine else .bulk) ∧
    (¬ named → c.phaseFromImage = false ∧ ∀ p : Fin 16, c.phaseTable[p] =
      if p.val % 4 = 1 then .routine else if p.val % 4 = 3 then .bulk else .visit) ∧
    (∀ k : Category, c.initialRates[k] =
      if number (0x31 + 3 * k.val) 3 ≤ 999999 then some (number (0x31 + 3 * k.val) 3) else none) ∧
    c.siteName = (field image 0x61 16).map (fun b => if 0x20 ≤ b.toNat ∧ b.toNat ≤ 0x7E then b else 0x20#8)

/-- The first events of the blocks after the values in force are handed on: the first SELECT with its 50 ms, the printer
answer limit, which a printer that is READY by then leaves as it is, the start check's table (R1, R2, R138, R140, R174);
and JOINING (R158, R159, R160, R168, R183): the link controller begins, the timers start, the HELLO is handed to the
ROUTINE queue, and a START-ERASE notice that waits is handed behind it. These are the model's: that the entry into JOINING
is an event of its own after the values in force (log 42), of which a second changes nothing (log 10), that a LOCK or
ERASE notice that waits is handed then too (log 52), and that a frame which waits since before JOINING is offered only
once the HELLO is placed (log 57). -/
def Obligations.FirstEventsOfTheBlocks : Prop :=
  (∀ s : State, s.live = true →
      (∀ c, s.weigh.select = none → (scanList s.cfg.channelMap).head? = some c →
        exec .firstScan s = .next { s.took .firstScan with
          weigh := { s.weigh with counts := [], select := some c, answerLimit := some 50 } }) ∧
      (s.tickets.printer ≠ .ready → exec .printerLimitStart s = .next { s.took .printerLimitStart with
        tickets := { s.tickets with answerLimit := some s.cfg.printerLimit } }) ∧
      (s.tickets.printer = .ready → exec .printerLimitStart s = .next (s.took .printerLimitStart)) ∧
      (cellCountOf s.cfg.channelMap = s.retained.cal.cellCount →
        exec .calStartCheck s = .next (s.took .calStartCheck)) ∧
      (cellCountOf s.cfg.channelMap ≠ s.retained.cal.cellCount → s.retained.lockEngaged = true →
        exec .calStartCheck s = .next { s.took .calStartCheck with
          retained := { s.retained with commits := s.retained.commits ++ [.cal .startErase] } }) ∧
      (cellCountOf s.cfg.channelMap ≠ s.retained.cal.cellCount → s.retained.lockEngaged = false →
        exec .calStartCheck s = .next { s.took .calStartCheck with
          retained := { s.retained with commits :=
            if s.retained.unverified then s.retained.commits else s.retained.commits ++ [.cal .flagUnverified] } })) ∧
  (∀ s : State, s.live = true → s.offline = true ∨ s.link.begun = true →
      exec .enterJoining s = .next (s.took .enterJoining)) ∧
  (∀ s : State, s.live = true → s.offline = false → s.link.begun = false →
      let joined : State := { s.took .enterJoining with
        link := { s.link with begun := true }
        peers := { s.peers with
          table := s.peers.table.set s.own { s.peers.table[s.own] with reportedActive := some false }
          station := .joining
          joinWindow := some s.cfg.joinWindow
          heartbeat := some s.cfg.heartbeat
          ticking := true } }
      let hello : Frame := ⟨.hello, beBytes 4 s.retained.bootCount ++ [byteOf s.loader.role.code]⟩
      (s.cal.notice = none → exec .enterJoining s = .next (joined.place hello).1) ∧
      (∀ n, s.cal.notice = some n → ((joined.place hello).1.place (noticeFrame n)).2 = true →
        exec .enterJoining s = .next { ((joined.place hello).1.place (noticeFrame n)).1 with cal := { s.cal with notice := none } }))

/-- The first sample (R27, R25, R50): each filtered input takes its raw state, a deck loop that is not fitted is inactive,
the beam group is armed with both beams clear, and each barrier takes the first row of the table of R50 that fits. Where
the start report came first, that the lane is given no event (log 43), and that a travel begun by a command is overwritten
(log 54), are the model's. -/
def Obligations.FirstSampleSetsInputsAndBarriers : Prop :=
  ∀ s : State, s.live = true → s.deck.sampled = false → ∃ t : State, exec .firstSample s = .next t ∧
    t = { s.took .firstSample with
          deck := { s.deck with sampled := true, debounced := t.deck.debounced, armed := t.deck.armed }
          barrierA := t.barrierA, barrierB := t.barrierB } ∧
    (∀ i : Input, t.active? i = (s.raw i && s.filtered i)) ∧
    t.deck.armed = (!t.active? (.beam .a) && !t.active? (.beam .b)) ∧
    ∀ e : End, t.barrier e = { s.barrier e with
      lowerPending := false
      state :=
        if t.active? (.upLimit e) = true ∧ t.active? (.downLimit e) = true then .fault
        else if t.active? (.motorFault e) = true then .fault
        else if t.active? (.upLimit e) = true then .up
        else if t.active? (.downLimit e) = true then .down
        else .rising
      reason :=
        if t.active? (.upLimit e) = true ∧ t.active? (.downLimit e) = true then some .limitConflict
        else if t.active? (.motorFault e) = true then some .motorFault
        else none
      travel :=
        if t.active? (.upLimit e) = true ∨ t.active? (.downLimit e) = true ∨ t.active? (.motorFault e) = true ∨
            s.offline = true then none
        else some s.cfg.travelLimit }

/-! ### The weighing channel -/

/-- The corrected cell count (R6): the difference from the calibration zero, times the corner factor, divided by 65,536
and rounded half away from zero; a factor of 65,536 leaves the difference unchanged, and a negative count is kept. -/
def Obligations.CorrectedCountRoundsHalfAwayFromZero : Prop :=
  (∀ (c z : Int) (k : Nat),
    let product := (c - z) * (k : Int)
    let a := correctedCount c z k
    2 * (65536 * a - product).natAbs ≤ 65536 ∧
    (2 * (65536 * a - product).natAbs = 65536 → product.natAbs < (65536 * a).natAbs) ∧
    (0 ≤ product → 0 ≤ a) ∧ (product ≤ 0 → a ≤ 0)) ∧
  (∀ c z : Int, correctedCount c z 65536 = c - z) ∧
  (correctedCount 10 0 49152 = 8 ∧ correctedCount (-2) 0 49152 = -2 ∧ correctedCount (-3) 0 49152 = -2 ∧
    correctedCount 7 0 81920 = 9)

/-- The displayed weight and its status (R8, R9): the multiple of d nearest to m' with halves away from zero; VALID
exactly from −20d to Max + 9d, and otherwise OVERLOAD or UNDERZERO. A scan is STABLE exactly when the window holds M
weights and the largest less the smallest is no more than B × d (R13); the window keeps its weights, the newest last, and
gives up its oldest only where there would be more than M (R11). -/
def Obligations.DisplayedWeightStatusAndStability : Prop :=
  (∀ (d capacity : Nat) (net : Int), 0 < d →
      let w := displayedWeight d net
      (d : Int) ∣ w ∧ 2 * (1000 * w - net).natAbs ≤ 1000 * d ∧
      (2 * (1000 * w - net).natAbs = 1000 * d → net.natAbs < (1000 * w).natAbs) ∧
      (statusOf d capacity w = .valid w ↔ -20 * (d : Int) ≤ w ∧ w ≤ capacity + 9 * d) ∧
      (statusOf d capacity w = .overload ↔ capacity + 9 * (d : Int) < w) ∧
      (statusOf d capacity w = .underzero ↔ w < -20 * (d : Int)) ∧
      statusOf d capacity w ≠ .noWeight) ∧
  ((∀ (length band d : Nat) (window : List Int), 0 < length →
      (windowStable length band d window = true ↔
        window.length = length ∧ ∀ a ∈ window, ∀ b ∈ window, a - b ≤ ((band * d : Nat) : Int))) ∧
    (∀ (length : Nat) (window : List Int) (w : Int), 0 < length → window.length ≤ length →
      (windowAfter length window w).length = min length (window.length + 1) ∧ (windowAfter length window w).getLast? = some w ∧
      windowAfter length window w <:+ window ++ [w]))

/-- A SAMPLE (R2, R3, R190): with no SELECT waiting, or of a length other than 4 bytes, it is discarded; a count inside
the extremes on the selected channel, with another channel of the list behind it, is kept and that one selected. A scan
ends as CELL-FAULT (R2 to R5, R9 to R13, R20) by the expiry of the answer limit, by an answer of another channel, or by
an extreme count. Its whole effect: it has no weight, empties the window, is not STABLE, moves the monitor, whose failure
the lane is told of, keeps Z, the zero state and the last mass; weight is not present, and presence is formed anew from the
deck loop, whose change the lane is told of (R31), or the start report is sent with the barrier faults that stand (R28,
R50); a measurement that takes scans is given it (R177); and the next scan begins. These are the model's: that the channel
named faulted is the selected one, and that an extreme count or the count of another channel is not among the counts kept
(log 16); the order of the events given (log 2); a report before the first sample (log 43); end A's fault before end B's,
and no converter-failed event before the report (log 32). -/
def Obligations.SampleTakesTheNextChannelOrEndsTheScan : Prop :=
  (∀ (s : State) (x y z : Byte), s.live = true →
      (∀ message, s.weigh.select = none ∨ message.length ≠ 4 → exec (.sample message) s = .next s) ∧
      (∀ c n : Channel, s.weigh.select = some c → fromBeSigned [x, y, z] ≠ -8388608 → fromBeSigned [x, y, z] ≠ 8388607 →
        (scanList s.cfg.channelMap).find? (fun k => c < k) = some n →
        exec (.sample [byteOf (c.val + 1), x, y, z]) s = .next { s with weigh := { s.weigh with
          counts := s.weigh.counts ++ [(c, fromBeSigned [x, y, z])], select := some n, answerLimit := some 50 } })) ∧
  (∀ (s : State) (c first : Channel), s.live = true → s.weigh.select = some c →
      (scanList s.cfg.channelMap).head? = some first →
      ∀ (i : Instr) (cause : CellCause),
        ((i = .channelAnswerLimitExpiry ∧ s.weigh.answerLimit.isSome = true ∧ cause = .noAnswer) ∨
          (∃ b x y z, i = .sample [b, x, y, z] ∧ b ≠ byteOf (c.val + 1) ∧ cause = .wrongChannel) ∨
          (∃ x y z, i = .sample [byteOf (c.val + 1), x, y, z] ∧
            (fromBeSigned [x, y, z] = -8388608 ∨ fromBeSigned [x, y, z] = 8388607) ∧ cause = .overrange)) →
      let fails := s.weigh.monitor ≠ .failed ∧ 3 ≤ s.weigh.faultCount + 1
      let presence := s.cfg.deckLoopFitted && s.active? .deckLoop
      let fault (e : End) : List Posted := match s.offline, (s.barrier e).state, (s.barrier e).reason with
        | false, .fault, some reason => [.event (.laneBarrierFault e reason)]
        | _, _, _ => []
      let told : List Posted :=
        if s.deck.reportSent then (if presence = s.deck.presence then [] else [.event (.lanePresenceChanged presence)])
        else [.event (.laneStartReport presence s.deck.debounced s.deck.armed)] ++ fault .a ++ fault .b
      exec i s = .next { s with
        weigh := { s.weigh with
          select := some first, answerLimit := some 50, counts := []
          lastScan := some ⟨some (c, cause), s.weigh.counts⟩
          monitor := if fails then .failed else s.weigh.monitor
          goodCount := 0, faultCount := min (s.weigh.faultCount + 1) 3
          window := [], current := .noWeight, stable := false }
        deck := { s.deck with weightPresent := false, presence := presence, reportSent := true }
        posted := s.posted ++ (if fails ∧ s.deck.reportSent = true then [.event .laneConverterFailed] else []) ++ told ++
          (if s.takingScans then [.event (.calScan .cellFault)] else []) })

/-- A scan that ends as GOOD: the last channel of the list gives a count inside the extremes (R3, R4). Its whole effect
(R7 to R20, R28, R31): the mass, and the weight by the zero in force when the scan ended; the window and STABLE; weight
present and presence, whose change the lane is told of, or the start report with the faults that stand (R50); the capture
where every condition of R19 holds; the scan handed to a measurement; then the zero step, an initial zero (R14, R15) or a
step of tracking (R17), a change of Z emptying the window; and the next scan. The order of the events given is the
model's (log 2), and so are: a report sent before the first sample (log 43), end A's fault before end B's (log 32), and
that a measurement runs until its commit has ended (log 15). -/
def Obligations.GoodScanWeighs : Prop :=
  ∀ (s : State) (c first : Channel) (x y z : Byte), s.live = true → s.weigh.select = some c →
    (scanList s.cfg.channelMap).head? = some first → (scanList s.cfg.channelMap).find? (fun k => c < k) = none →
    fromBeSigned [x, y, z] ≠ -8388608 → fromBeSigned [x, y, z] ≠ 8388607 →
    let cal := s.retained.cal
    let d : Int := cal.interval
    let most : Int := 20 * cal.capacity
    let counts := s.weigh.counts ++ [(c, fromBeSigned [x, y, z])]
    let sum : Int := (counts.map (fun p => correctedCount p.2 cal.z[p.1] cal.k[p.1])).sum
    let mass := roundHalfAway (sum * cal.span) 65536
    let status := statusOf cal.interval cal.capacity (displayedWeight cal.interval (mass - s.weigh.zero))
    let monitor : Monitor := match s.weigh.monitor with
      | .running => .running
      | .failed => .warming
      | .warming => if s.weigh.goodCount + 1 < 16 then .warming else .running
    let window : List Int := match status with
      | .valid w => windowAfter s.cfg.windowLen s.weigh.window w
      | _ => []
    let stable : Bool := match status with
      | .valid _ => windowStable s.cfg.windowLen s.cfg.band cal.interval window
      | _ => false
    let weighs : Bool := match status with
      | .valid w => decide (20 * d ≤ w)
      | _ => false
    let loop := s.cfg.deckLoopFitted && s.active? .deckLoop
    let presence := loop || weighs
    let clear := !s.active? (.beam .a) && !s.active? (.beam .b)
    let fault (e : End) : List Posted := match s.offline, (s.barrier e).state, (s.barrier e).reason with
      | false, .fault, some reason => [.event (.laneBarrierFault e reason)]
      | _, _, _ => []
    let told : List Posted :=
      if s.deck.reportSent then (if presence = s.deck.presence then [] else [.event (.lanePresenceChanged presence)])
      else [.event (.laneStartReport presence s.deck.debounced s.deck.armed)] ++ fault .a ++ fault .b
    let captured := s.weigh.captureRequest && stable && monitor == .running && s.weigh.zeroSet && presence && clear &&
      s.deck.armed && weighs
    let capture : List Posted := match captured, status with
      | true, .valid w => [.event (.capture w.toNat)]
      | _, _ => []
    let quiet := stable && monitor == .running && !loop && !s.measuring
    let tries := quiet && !s.weigh.zeroSet && clear && s.lane.state == .idle
    let takes := tries && decide ((mass.natAbs : Int) ≤ most)
    let off := mass - s.weigh.zero
    let tracks := quiet && s.weigh.zeroSet && !weighs && decide ((off.natAbs : Int) ≤ 500 * d)
    let zero : Int :=
      if takes then mass
      else if tracks then max (-most) (min most (s.weigh.zero + max (-(50 * d)) (min (50 * d) off)))
      else s.weigh.zero
    exec (.sample [byteOf (c.val + 1), x, y, z]) s = .next { s with
      weigh := {
        select := some first, answerLimit := some 50, counts := []
        lastScan := some ⟨none, counts⟩, monitor := monitor
        goodCount := min (s.weigh.goodCount + 1) 16, faultCount := 0
        zeroSet := s.weigh.zeroSet || takes, zero := zero
        zeroRange := if tries then !takes else s.weigh.zeroRange
        window := if zero = s.weigh.zero then window else []
        lastMass := some mass, current := status, stable := stable
        captureRequest := s.weigh.captureRequest && !captured }
      deck := { s.deck with weightPresent := weighs, presence := presence, reportSent := true }
      posted := s.posted ++ told ++ capture ++
        (if s.takingScans then [.event (.calScan (.good counts sum))] else []) }

/-- A capture needs every condition of R19: from an open request, whose scan is VALID, STABLE and at least 20d, with the
converter RUNNING, zero SET, the deck wholly occupied and the beam group armed. It carries the weight of the scan and
closes the request; any other scan leaves the request as it stands. A SAMPLE that ends a scan makes the test once, at
stage 4 of R10, on the state after stages 1 to 3 with the weight answer taken, before the scan is handed to a measurement,
the zero step is taken and the next scan begins. -/
def Obligations.CaptureNeedsEveryCondition : Prop :=
  (∀ s : State,
    (∀ w : Int, s.weigh.captureRequest = true → s.weigh.current = .valid w → s.weigh.stable = true →
      s.weigh.monitor = .running → s.weigh.zeroSet = true → s.deck.presence = true →
      s.active? (.beam .a) = false → s.active? (.beam .b) = false → s.deck.armed = true →
      20 * (s.retained.cal.interval : Int) ≤ w →
      s.giveCapture = { s with
        weigh := { s.weigh with captureRequest := false }, posted := s.posted ++ [.event (.capture w.toNat)] }) ∧
    ((∃ w : Int, s.weigh.captureRequest = true ∧ s.weigh.current = .valid w ∧ s.weigh.stable = true ∧
      s.weigh.monitor = .running ∧ s.weigh.zeroSet = true ∧ s.deck.presence = true ∧
      s.active? (.beam .a) = false ∧ s.active? (.beam .b) = false ∧ s.deck.armed = true ∧
      20 * (s.retained.cal.interval : Int) ≤ w) ∨ s.giveCapture = s)) ∧
  (∀ (s : State) (c : Channel) (x y z : Byte), s.live = true → s.weigh.select = some c →
    (scanList s.cfg.channelMap).find? (fun k => c < k) = none →
    fromBeSigned [x, y, z] ≠ -8388608 → fromBeSigned [x, y, z] ≠ 8388607 →
    let kept : State := { s with weigh := { s.weigh with
      counts := s.weigh.counts ++ [(c, fromBeSigned [x, y, z])] } }
    let judged := (kept.measureScan none).takeWeightAnswer
    exec (.sample [byteOf (c.val + 1), x, y, z]) s =
      .next (((judged.giveCapture.giveCalScan none).zeroStep true).beginScan))

/-- The office's ZERO at the weighing channel (R18), its answer in the last command and a LANE-STATUS; and the beam
activation that empties the window (R12). That the test of the weighing channel itself records the command and places the
LANE-STATUS is the model's (log 25), and so is that a measurement runs until its commit has ended (log 15). -/
def Obligations.ZeroCommandAndBeamAtTheScale : Prop :=
  ∀ s : State, s.live = true →
    exec .windowEmptyBeam s = .next { s.took .windowEmptyBeam with weigh := { s.weigh with window := [] } } ∧
    (∀ (m w : Int), s.weigh.lastMass = some m → s.weigh.current = .valid w → s.weigh.stable = true →
      s.weigh.monitor = .running → s.deckLoopClear = true → s.beamsClear = true → s.measuring = false →
      (m.natAbs ≤ 20 * s.retained.cal.capacity →
        exec .zeroTest s = .next ({ s.took .zeroTest with
          weigh := { s.weigh with
            zero := m, zeroSet := true, zeroRange := false, window := if m = s.weigh.zero then s.weigh.window else [] }
          lane := { s.lane with lastCommand := some ⟨.zero, .done⟩ } }).report) ∧
      (20 * s.retained.cal.capacity < m.natAbs →
        exec .zeroTest s = .next ({ s.took .zeroTest with
          weigh := { s.weigh with zeroRange := true }
          lane := { s.lane with lastCommand := some ⟨.zero, .refused⟩ } }).report)) ∧
    ((s.weigh.lastMass = none ∨ (∀ w : Int, s.weigh.current ≠ .valid w) ∨ s.weigh.stable = false ∨
        s.weigh.monitor ≠ .running ∨ s.deckLoopClear = false ∨ s.beamsClear = false ∨ s.measuring = true) →
      exec .zeroTest s = .next ({ s.took .zeroTest with
        lane := { s.lane with lastCommand := some ⟨.zero, .refused⟩ } }).report)

/-! ### The deck sensor unit -/

/-- A line that changes (R23 to R25, R27). From the first sample on, the filter of a filtered input starts its timer
where the raw state comes to differ from the debounced state, lets one that runs run on, and stops it where they agree
again; before it, and for a deck loop that is not fitted, only the line has moved. That the line moves before the values in
force too (log 9), and that a timer which runs is left running by a change of the line (log 30), are the model's. -/
def Obligations.RawChangeStartsAndStopsTheFilter : Prop :=
  ∀ (s : State) (i : Input) (level : Bool), s.deck.lines[i.index] = !level →
    let moved : DeckState := { s.deck with lines := s.deck.lines.set i.index level }
    let raw := level == s.cfg.inputs[i.index].activeHigh
    (s.live = false ∨ s.deck.sampled = false ∨ (i = .deckLoop ∧ s.cfg.deckLoopFitted = false) →
      exec (.rawInputChange i level) s = .next { s with deck := moved }) ∧
    (s.live = true → s.deck.sampled = true → (i ≠ .deckLoop ∨ s.cfg.deckLoopFitted = true) →
      let timer :=
        if raw = s.deck.debounced[i.index] then none
        else some (s.deck.timers[i.index].getD s.cfg.inputs[i.index].debounce)
      exec (.rawInputChange i level) s = .next { s with deck := { moved with
        timers := s.deck.timers.set i.index timer } })

/-- A debounce timer expires (R24, R26, R29, R30, R35, R38, R83): the debounced state takes the raw state, the timer stops,
and the change goes to the blocks that own it. The lane is given it once the start report has been sent, and not before
(R26, R28), the release of an approach loop too, which tests the reversing condition (R83); presence is formed from then
on. The order of the events given is the model's (log 2). A deck loop event
forms presence anew, and a change of it is told to the lane (R31); a measurement that takes scans is told of the
activation of a beam or of the deck loop (R177). -/
def Obligations.DebouncedChangeIsHandedOn : Prop :=
  (∀ (s : State) (i : Input), s.live = true → s.deck.timers[i.index].isSome = true → i ≠ .deckLoop →
      let t : State := { s with deck := { s.deck with
        timers := s.deck.timers.set i.index none, debounced := s.deck.debounced.set i.index (s.raw i) } }
      let bothBeamsClear := !t.active? (.beam .a) && !t.active? (.beam .b)
      let lane (k : Instr) : List Posted := if s.deck.reportSent then [.event k] else []
      exec (.debounceExpiry i) s = .next (match i, s.raw i with
        | .approach e, true =>
          match s.deck.choice, s.directionFrom e with
          | .opened, some direction =>
            { t with
              deck := { t.deck with choice := .chosen e direction, lastNear := some e }
              posted := s.posted ++ lane (.laneApproachOffer e direction) }
          | _, _ => t
        | .approach e, false => { t with posted := s.posted ++ lane (.nearApproachRelease e) }
        | .safety e, true =>
          { t with posted := s.posted ++ [.event (.barrierSafetyActivation e)] ++ lane (.laneSafetyLoopEvent e true) }
        | .safety e, false =>
          { t with posted := s.posted ++ [.event (.barrierSafetyRelease e)] ++ lane (.laneSafetyLoopEvent e false) }
        | .beam e, true =>
          { t with
            deck := { t.deck with armed := false }
            posted := s.posted ++ [.event .windowEmptyBeam] ++
              (if s.takingScans then [.event (.calInterrupt .beam)] else []) ++ lane (.laneBeamEvent e true) }
        | .beam e, false =>
          { t with
            deck := { t.deck with armed := bothBeamsClear }
            posted := s.posted ++ lane (.laneBeamEvent e false) }
        | .upLimit e, true => { t with posted := s.posted ++ [.event (.upLimitActivation e)] }
        | .upLimit e, false => { t with posted := s.posted ++ [.event (.limitRelease e .up)] }
        | .downLimit e, true => { t with posted := s.posted ++ [.event (.downLimitActivation e)] }
        | .downLimit e, false => { t with posted := s.posted ++ [.event (.limitRelease e .down)] }
        | .motorFault e, true => { t with posted := s.posted ++ [.event (.motorFaultActivation e)] }
        | .motorFault e, false => { t with posted := s.posted ++ [.event (.motorFaultRelease e)] }
        | .help, true => { t with posted := s.posted ++ lane .laneHelpPress }
        | .help, false => t
        | .deckLoop, _ => t)) ∧
  (∀ s : State, s.live = true → s.deck.timers[Input.deckLoop.index].isSome = true → s.cfg.deckLoopFitted = true →
      let presence := if s.deck.reportSent then s.raw .deckLoop || s.deck.weightPresent else s.deck.presence
      exec (.debounceExpiry .deckLoop) s = .next { s with
        deck := { s.deck with
          timers := s.deck.timers.set Input.deckLoop.index none
          debounced := s.deck.debounced.set Input.deckLoop.index (s.raw .deckLoop)
          presence := presence }
        posted := s.posted ++ (if presence = s.deck.presence then [] else [.event (.lanePresenceChanged presence)]) ++
          (if s.raw .deckLoop = true ∧ s.takingScans = true then [.event (.calInterrupt .deckLoop)] else []) })

/-- READY and CAL-HOLD (R34, R35, R37): READY opens the choice, and an occupied approach loop at an end that may be
near is offered at once, with two of them the end opposite the last near end, or the road end; an OFFLINE station's
choice stays SHUT; CAL-HOLD shuts it. -/
def Obligations.ReadyOffersAWaitingVehicle : Prop :=
  ∀ s : State, s.live = true →
    let opened : State := { s.took .ready with deck := { s.deck with choice := .opened } }
    let waits (e : End) : Prop := s.active? (.approach e) = true ∧ (s.directionFrom e).isSome = true
    let offered (e : End) (d : Direction) : State := { s.took .ready with
      deck := { s.deck with choice := .chosen e d, lastNear := some e }
      posted := (s.took .ready).posted ++ (if s.deck.reportSent then [.event (.laneApproachOffer e d)] else []) }
    (s.offline = true → exec .ready s = .next (s.took .ready)) ∧
    (s.offline = false → ¬ waits .a → ¬ waits .b → exec .ready s = .next opened) ∧
    (∀ e d, s.offline = false → s.directionFrom e = some d → waits e → ¬ waits e.other →
      exec .ready s = .next (offered e d)) ∧
    (∀ e d, s.offline = false → waits .a → waits .b → e = (s.deck.lastNear.map End.other).getD s.cfg.roadEnd →
      s.directionFrom e = some d → exec .ready s = .next (offered e d)) ∧
    exec .calHold s = .next { s.took .calHold with deck := { s.deck with choice := .shut } }

/-! ### The barrier units -/

/-- RAISE and LOWER at a barrier unit, by its state (R41 to R45): refused in FAULT; a matching command empties or sets the
pending slot as R42 gives; a travel starts with the full travel limit; a limit that is already active is the arrival at
once, and a travel begun with both limits active is a limit conflict, whose command is ACCEPTED (R47); a fall starts only
with the safety loop clear. That a command acts so before the first sample too is the model's (log 54). -/
def Obligations.RaiseAndLowerByState : Prop :=
  ∀ (s : State) (e : End),
    let b := s.barrier e
    let told (t : State) (p : Limit) : State := { t with
      posted := t.posted ++ (if s.deck.reportSent = true then [.event (.laneBarrierArrival e p)] else []) }
    let conflict : State := { s.setBarrier e { b with
      state := .fault, travel := none, lowerPending := false, reason := some .limitConflict } with
        posted := s.posted ++ (if s.deck.reportSent = true then [.event (.laneBarrierFault e .limitConflict)] else []) }
    (b.state = .fault → s.raiseBarrier e = (s, false) ∧ s.lowerBarrier e = (s, false)) ∧
    (b.state = .rising ∨ b.state = .up → s.raiseBarrier e = (s.setBarrier e { b with lowerPending := false }, true)) ∧
    (b.state = .down ∨ b.state = .falling →
      s.lowerBarrier e = (s, true) ∧
      (s.active? (.upLimit e) = false → s.raiseBarrier e = (s.setBarrier e { b with
        state := .rising, travel := some s.cfg.travelLimit, lowerPending := false }, true)) ∧
      (s.active? (.upLimit e) = true → s.active? (.downLimit e) = false →
        s.raiseBarrier e = (told (s.setBarrier e { b with state := .up, travel := none, lowerPending := false }) .up, true)) ∧
      (s.active? (.upLimit e) = true → s.active? (.downLimit e) = true → s.raiseBarrier e = (conflict, true))) ∧
    (b.state = .rising → s.lowerBarrier e = (s.setBarrier e { b with lowerPending := true }, true)) ∧
    (b.state = .up →
      (s.active? (.safety e) = true → s.lowerBarrier e = (s.setBarrier e { b with lowerPending := true }, true)) ∧
      (s.active? (.safety e) = false → s.active? (.downLimit e) = false → s.lowerBarrier e = (s.setBarrier e { b with
        state := .falling, travel := some s.cfg.travelLimit, lowerPending := false }, true)) ∧
      (s.active? (.safety e) = false → s.active? (.downLimit e) = true → s.active? (.upLimit e) = false →
        s.lowerBarrier e = (told (s.setBarrier e { b with state := .down, travel := none, lowerPending := false }) .down,
          true)) ∧
      (s.active? (.safety e) = false → s.active? (.downLimit e) = true → s.active? (.upLimit e) = true →
        s.lowerBarrier e = (conflict, true)))

/-- The activation of a limit (R44, R45, R47): in FAULT nothing; with the other limit active a limit conflict; on the
limit the arm travels to, the arrival, at UP with a pending LOWER acted on; otherwise nothing. -/
def Obligations.LimitActivationArrivesOrFaults : Prop :=
  ∀ (s : State) (e : End), s.barriersWork = true →
    let b := s.barrier e
    let put (i : Instr) (c : BarrierUnit) (told : Instr) : State := { (s.took i).setBarrier e c with
      posted := (s.took i).posted ++ (if s.deck.reportSent = true then [.event told] else []) }
    let conflict (i : Instr) : State := put i
      { b with state := .fault, travel := none, lowerPending := false, reason := some .limitConflict }
      (.laneBarrierFault e .limitConflict)
    let up := s.active? (.upLimit e)
    let down := s.active? (.downLimit e)
    (b.state = .fault → exec (.upLimitActivation e) s = .next (s.took (.upLimitActivation e)) ∧
      exec (.downLimitActivation e) s = .next (s.took (.downLimitActivation e))) ∧
    (b.state ≠ .fault → down = true →
      exec (.upLimitActivation e) s = .next (conflict (.upLimitActivation e))) ∧
    (b.state ≠ .fault → up = true →
      exec (.downLimitActivation e) s = .next (conflict (.downLimitActivation e))) ∧
    (b.state ≠ .fault → b.state ≠ .rising → down = false →
      exec (.upLimitActivation e) s = .next (s.took (.upLimitActivation e))) ∧
    (b.state ≠ .fault → b.state ≠ .falling → up = false →
      exec (.downLimitActivation e) s = .next (s.took (.downLimitActivation e))) ∧
    (b.state = .rising → down = false → b.lowerPending = false ∨ s.active? (.safety e) = true →
      exec (.upLimitActivation e) s = .next (put (.upLimitActivation e) { b with state := .up, travel := none }
        (.laneBarrierArrival e .up))) ∧
    (b.state = .rising → down = false → b.lowerPending = true → s.active? (.safety e) = false →
      exec (.upLimitActivation e) s = .next (put (.upLimitActivation e)
        { b with state := .falling, travel := some s.cfg.travelLimit, lowerPending := false }
        (.laneBarrierArrival e .up))) ∧
    (b.state = .falling → up = false →
      exec (.downLimitActivation e) s = .next (put (.downLimitActivation e) { b with state := .down, travel := none }
        (.laneBarrierArrival e .down)))

/-- Entry into FAULT by the motor-fault input or by the travel timer (R46, R48): the drives stop, the timer stops, the
slot empties, the reason is set and the lane is told; a barrier in FAULT takes neither again. The release of a limit
and of the motor-fault input change nothing at the unit (R47, R48). A safety loop activation in FALLING reverses the arm,
whose LOWER stays pending, with the travel limit started afresh; a release in UP with a LOWER pending and the loop clear
starts the fall; a limit that the arm then travels to and that is active already is its arrival at once, at UP with the
LOWER still pending while the loop is occupied, and both limits active are a conflict (R43, R47); in any other state, or
with the loop occupied again, either changes nothing (R43 to R45). -/
def Obligations.BarrierFaultSafetyLoopAndReleases : Prop :=
  (∀ (s : State) (e : End), s.barriersWork = true →
      let b := s.barrier e
      let faulted (t : State) (r : FaultReason) : State := { t.setBarrier e { b with
        state := .fault, travel := none, lowerPending := false, reason := some r } with
          posted := t.posted ++ (if s.deck.reportSent = true then [.event (.laneBarrierFault e r)] else []) }
      (b.state ≠ .fault → exec (.motorFaultActivation e) s = .next (faulted (s.took (.motorFaultActivation e)) .motorFault)) ∧
      (b.state = .fault → exec (.motorFaultActivation e) s = .next (s.took (.motorFaultActivation e))) ∧
      (b.travel.isSome = true → b.state = .rising ∨ b.state = .falling →
        exec (.travelTimerExpiry e) s = .next (faulted s .travelTimeout)) ∧
      (b.travel = none ∨ (b.state ≠ .rising ∧ b.state ≠ .falling) → exec (.travelTimerExpiry e) s = .next s) ∧
      (∀ l, exec (.limitRelease e l) s = .next (s.took (.limitRelease e l))) ∧
      exec (.motorFaultRelease e) s = .next (s.took (.motorFaultRelease e))) ∧
  (∀ (s : State) (e : End), s.barriersWork = true →
      let b := s.barrier e
      let on := Instr.barrierSafetyActivation e
      let off := Instr.barrierSafetyRelease e
      let told (t : State) (i : Instr) (b : BarrierUnit) : State := { t.setBarrier e b with
        posted := t.posted ++ (if s.deck.reportSent = true then [.event i] else []) }
      let conflict : BarrierUnit := { b with
        state := .fault, travel := none, lowerPending := false, reason := some .limitConflict }
      (b.state = .falling → s.active? (.upLimit e) = false →
        exec on s = .next ((s.took on).setBarrier e { b with
          state := .rising, travel := some s.cfg.travelLimit, lowerPending := true })) ∧
      (b.state = .falling → s.active? (.upLimit e) = true → s.active? (.downLimit e) = false →
        (s.active? (.safety e) = true → exec on s = .next (told (s.took on) (.laneBarrierArrival e .up) { b with
          state := .up, travel := none, lowerPending := true })) ∧
        (s.active? (.safety e) = false → exec on s = .next (told (s.took on) (.laneBarrierArrival e .up) { b with
          state := .falling, travel := some s.cfg.travelLimit, lowerPending := false }))) ∧
      (b.state = .falling → s.active? (.upLimit e) = true → s.active? (.downLimit e) = true →
        exec on s = .next (told (s.took on) (.laneBarrierFault e .limitConflict) conflict)) ∧
      (b.state ≠ .falling → exec on s = .next (s.took on)) ∧
      (b.state = .up → b.lowerPending = true → s.active? (.safety e) = false → s.active? (.downLimit e) = false →
        exec off s = .next ((s.took off).setBarrier e { b with
          state := .falling, travel := some s.cfg.travelLimit, lowerPending := false })) ∧
      (b.state = .up → b.lowerPending = true → s.active? (.safety e) = false → s.active? (.downLimit e) = true →
        (s.active? (.upLimit e) = false → exec off s = .next (told (s.took off) (.laneBarrierArrival e .down) { b with
          state := .down, travel := none, lowerPending := false })) ∧
        (s.active? (.upLimit e) = true →
          exec off s = .next (told (s.took off) (.laneBarrierFault e .limitConflict) conflict))) ∧
      (b.state ≠ .up ∨ b.lowerPending = false ∨ s.active? (.safety e) = true → exec off s = .next (s.took off)))

/-- BARRIER-RESET as the lane passes it on (R49, R80): refused outside FAULT, with the motor-fault input active, or
with both limits active, the reason set as the rule gives; otherwise the barrier leaves FAULT by its limits, upward where
neither is active. The result is recorded and reported. Where the motor-fault input and both limits are active, that the
reason is MOTOR-FAULT is the model's (log 44). -/
def Obligations.BarrierResetLeavesFaultByTheLimits : Prop :=
  ∀ (s : State) (target : Byte) (argument : List Byte) (e : End), s.laneTakes = true →
    target.toNat = s.own.val → argumentEnd argument = some e →
    let i := Instr.barrierReset target argument
    let b := s.barrier e
    let answered (c : BarrierUnit) (r : CommandResult) : Result :=
      .next (({ (s.took i).setBarrier e c with lane := { s.lane with lastCommand := some ⟨.barrierReset, r⟩ } }).report)
    let up := s.active? (.upLimit e)
    let down := s.active? (.downLimit e)
    let motor := s.active? (.motorFault e)
    (b.state ≠ .fault → exec i s = answered b .refused) ∧
    (b.state = .fault → motor = true → exec i s = answered { b with reason := some .motorFault } .refused) ∧
    (b.state = .fault → motor = false → up = true → down = true →
      exec i s = answered { b with reason := some .limitConflict } .refused) ∧
    (b.state = .fault → motor = false → up = true → down = false →
      exec i s = answered { b with state := .up, reason := none } .done) ∧
    (b.state = .fault → motor = false → up = false → down = true →
      exec i s = answered { b with state := .down, reason := none } .done) ∧
    (b.state = .fault → motor = false → up = false → down = false →
      exec i s = answered { b with state := .rising, reason := none, travel := some s.cfg.travelLimit } .done)

/-- The lamps and the drives (R40, R50 to R52, R60): a head shows red FLASH in FAULT and on an OFFLINE station, and its
requested modes otherwise; at most one drive is on, up in RISING and down in FALLING, and none on an OFFLINE station;
the tick turns the flash rhythm over (log 31); the lane's request sets one green at most. -/
def Obligations.LampsAndDrives : Prop :=
  (∀ (s : State) (e : End), s.live = true →
    ((s.barrier e).state = .fault ∨ s.offline = true → s.lampsShown e = (.flash, .off)) ∧
    ((s.barrier e).state ≠ .fault → s.offline = false →
      s.lampsShown e = ((s.barrier e).redRequest, (s.barrier e).greenRequest)) ∧
    (s.offline = true → s.drives e = (false, false)) ∧
    (s.offline = false → s.drives e = (decide ((s.barrier e).state = .rising), decide ((s.barrier e).state = .falling)))) ∧
  (∀ s : State, s.live = true → exec .flashTick s = .next { s with flashLit := !s.flashLit }) ∧
  (∀ (s : State) (green : Option End) (e : End), (s.requestHeads green).barrier e = { s.barrier e with
    redRequest := if green = some e then .off else .on, greenRequest := if green = some e then .on else .off })

/-! ### Frames, help, and the entries into the lane's states -/

/-- LANE-STATUS (R88, R152, R153): on a station that is not OFFLINE it goes to the tail of the BULK queue, or is
discarded and counted where the queue holds 16; on an OFFLINE station it is discarded uncounted (R158). Its 28 bytes are
those of 11.3, with the codes of its tables; that an absent near end sends 0 is the model's (log 47), and the nibble of a
command kind that the station does not know is free (log 12). The raise of help (R54, R55): with the status PENDING, the
same reason or a help press raises nothing; otherwise a HELP with the lane state, the reason and the token goes to the
URGENT queue, or is counted lost where it holds 4, and the status becomes PENDING with the reason. -/
def Obligations.LaneStatusAndHelpArePlacedOrCounted : Prop :=
  (∀ (s : State) (orphan : Option VisitNumber),
      (s.offline = false → s.link.bulk.frames.length < 16 →
        s.placeStatus orphan = State.tryStart { s with link := { s.link with
          bulk := { s.link.bulk with frames := s.link.bulk.frames ++ [laneStatusFrame s orphan] } } }) ∧
      (s.offline = false → 16 ≤ s.link.bulk.frames.length →
        s.placeStatus orphan = { s with link := { s.link with
          statusDiscards := min (s.link.statusDiscards + 1) 65535 } }) ∧
      (s.offline = true → s.placeStatus orphan = s)) ∧
  (∀ (s : State) (r : Reason), s.offline = false →
      let pending (t : State) : State := { t with lane := { t.lane with help := .pending, lastHelp := some r } }
      let frame : Frame :=
        ⟨.help, byteOf (s.lane.state.code * 16 + r.code) :: tokenBytes s.lane.record.token⟩
      (s.lane.help = .pending → (r = .helpButton ∨ s.lane.lastHelp = some r) → s.raiseHelp r = s) ∧
      ((s.lane.help ≠ .pending ∨ (r ≠ .helpButton ∧ s.lane.lastHelp ≠ some r)) → s.link.urgent.frames.length < 4 →
        s.raiseHelp r = pending (State.tryStart { s with link := { s.link with
          urgent := { s.link.urgent with frames := s.link.urgent.frames ++ [frame] } } })) ∧
      ((s.lane.help ≠ .pending ∨ (r ≠ .helpButton ∧ s.lane.lastHelp ≠ some r)) → 4 ≤ s.link.urgent.frames.length →
        s.raiseHelp r = pending { s with link := { s.link with helpLost := min (s.link.helpLost + 1) 65535 } })) ∧
  (∀ (s : State) (orphan : Option VisitNumber),
      let r := s.lane.record
      let flag (b : Bool) (weight : Nat) : Nat := if b then weight else 0
      let arm (b : BarrierUnit) : Nat :=
        b.state.code * 32 + (b.reason.map FaultReason.code).getD 0 * 8 + flag b.lowerPending 4
      let number (n : Option VisitNumber) : List Byte := match n with
        | none => [0#8, 0#8, 0#8]
        | some n => beBytes 3 (n.opener.val * 1048576 + n.epoch * 4096 + n.sequence)
      laneStatusFrame s orphan = ⟨.laneStatus,
        ([ s.lane.state.code * 16 + (r.assist.map Reason.code).getD 0,
           (match r.direction with | none => 0 | some .inbound => 64 | some .outbound => 128) +
             flag (r.near == some .b) 32 + flag r.manual 16 +
             (match r.kind with | none => 0 | some .twoPass => 4 | some .storedTare => 8) +
             (match r.pendingCommand with | none => 0 | some .back => 1 | some .pass => 2),
           r.progress.code * 32 + s.lane.help.code * 8 + flag s.weigh.zeroRange 4 + flag s.lane.calHold 2,
           (match s.lane.lastCommand with | none => 0 | some c => c.command.nibble * 16 + c.result.code * 4),
           s.lane.sign.code * 16, arm s.barrierA, arm s.barrierB,
           (s.lampsShown .a).1.code * 64 + (s.lampsShown .a).2.code * 16 + (s.lampsShown .b).1.code * 4 +
             (s.lampsShown .b).2.code ] : List Nat).map (BitVec.ofNat 8) ++
        (r.token.getD [] ++ List.replicate (8 - (r.token.getD []).length) 0#8) ++
        [match r.category with | none => 0xFF#8 | some c => BitVec.ofNat 8 c.val] ++
        (match r.capture with | none => [0xFF#8, 0xFF#8, 0xFF#8] | some (weight, _) => beBytes 3 weight) ++
        number r.visitRef ++ beBytes 2 s.lane.orphans ++ number orphan⟩) ∧
  ([LaneState.idle, .approach, .boarding, .weighing, .claiming, .held, .closing, .ticketing, .departing, .reversing,
      .assist, .deckBlocked].map LaneState.code = List.range 12 ∧
    [Reason.noToken, .noCapture, .converterFail, .categoryClosed, .duplicate, .unmatched, .tareDiscrepancy,
      .notDelivered, .ticketsExhausted, .barrierFault, .helpButton, .deckBlocked, .clearDeck, .printer].map Reason.code =
        List.range' 1 14 ∧
    [Progress.none, .claimOut, .claimDropped, .admitted, .closeOut, .closeDropped, .closed, .released].map Progress.code =
      List.range 8 ∧
    [Sign.blank, .wait, .stop, .proceed, .weighing, .yardFull, .seeOffice, .reverse, .takeTicket].map Sign.code =
      List.range 9 ∧
    [HelpStatus.none, .pending, .acknowledged].map HelpStatus.code = [0, 1, 2] ∧
    [CommandResult.done, .refused, .accepted].map CommandResult.code = [1, 2, 3] ∧
    [OfficeCommand.token, .category, .retry, .pass, .back, .zero, .helpAck, .barrierReset, .reprint, .raise,
      .lower].map OfficeCommand.nibble = List.range' 1 11 ∧
    [BarrierState.down, .rising, .up, .falling, .fault].map BarrierState.code = List.range 5 ∧
    [FaultReason.travelTimeout, .motorFault, .limitConflict].map FaultReason.code = [1, 2, 3] ∧
    [LampMode.off, .on, .flash].map LampMode.code = [0, 1, 2])

/-- The entry into ASSIST (R78), with its steps in order: the reason, with progress NONE for DUPLICATE and UNMATCHED; the
timers stopped and the capture request closed; the lamps and SEE-OFFICE; help; a LANE-STATUS. A frame that waits for room
and an issue that waits are withdrawn where the lane leaves the state that asked for them (logs 19, 38). The entry into
IDLE (R57, R62): the record cleared, the timers stopped, the capture request closed, LOWER sent to both barriers, the
lamps and the sign of IDLE, the help status NONE, READY sent, and a LANE-STATUS. The entry into WEIGHING (R66, R12): the
window emptied and the capture request opened, a held capture cleared and every other field of the record kept (log 39),
the stability limit started, the lamps and the sign; an inbound transaction's category is the one held, or the reader's,
or the default of the stored tare, or 0 (R120), and one that is CLOSED goes to ASSIST, after the LANE-STATUS of the entry
(log 17). That the store's answers are kept (log 26), and that a record with no category and no token, which is in no run,
has none resolved (log 11), are the model's. -/
def Obligations.EntriesOfTheLaneTakeTheirSteps : Prop :=
  ((∀ (s : State) (r : Reason),
        let leaves := s.lane.state ≠ .assist ∧ s.lane.asked.isSome = true
        let posted := if leaves then s.posted.filter (fun p => !isFrameRequest p) ++ [.event .frameWithdraw] else s.posted
        let issue := match s.lane.state, s.lane.record.visitRef with
          | .ticketing, some n => [.event (.issueWithdraw n)]
          | _, _ => []
        s.enterAssist r = ((State.raiseHelp { s.requestHeads none with
          weigh := { s.weigh with captureRequest := false }
          posted := posted ++ issue
          lane := { s.lane with
            state := .assist, sign := .seeOffice, idWait := none, stabilityLimit := none, clearDeckLimit := none
            waitActive := false, leg := .rising, asked := if leaves then none else s.lane.asked
            record := { s.lane.record with
              assist := some r
              progress := if r = .duplicate ∨ r = .unmatched then .none else s.lane.record.progress } } } r)).report) ∧
    (∀ s : State,
        let lowered := ((s.lowerBarrier .a).1.lowerBarrier .b).1
        s.enterIdle = (State.report { lowered.requestHeads none with
          weigh := { s.weigh with captureRequest := false }
          posted := lowered.posted ++ [.event .ready]
          lane := { s.lane with
            state := .idle, record := {}, sign := if s.lane.calHold then .stop else .blank, help := .none
            asked := none, ticketed := false, waitActive := false, leg := .rising
            idWait := none, stabilityLimit := none, clearDeckLimit := none } }))) ∧
  (∀ s : State,
      let entered : State := { s.requestHeads none with
        weigh := { s.weigh with captureRequest := true, window := [] }
        lane := { s.lane with
          state := .weighing, sign := .weighing, stabilityLimit := some s.cfg.stabilityLimit
          waitActive := false, leg := .rising, record := { s.lane.record with assist := none, capture := none } } }
      let goesOn (t : State) (c : Category) : Prop :=
        (∀ rate, s.store.tariff[c] = some rate → s.enterWeighing = t.report.askClosed c) ∧
        (s.store.tariff[c] = none → s.enterWeighing = (t.report.askClosed c).enterAssist .categoryClosed)
      let resolved (tares : List TareRecord) (c : Category) : State := { entered with
        store := { s.store with tares := tares }
        answers := { s.answers with category := some c }
        lane := { entered.lane with record := { entered.lane.record with category := some c } } }
      let expired (r : TareRecord) : Prop := ∃ t day, s.peers.clock = some t ∧ r.expiry = some day ∧ day < t.day
      (s.lane.record.direction ≠ some .inbound → s.enterWeighing = entered.report) ∧
      (∀ c, s.lane.record.direction = some .inbound → s.lane.record.category = some c → goesOn entered c) ∧
      (∀ token, s.lane.record.direction = some .inbound → s.lane.record.category = none →
        s.lane.record.token = some token →
        (∀ c, s.lane.record.readerCategory = some c → goesOn (resolved s.store.tares c) c) ∧
        (s.lane.record.readerCategory = none →
          (∀ r, s.store.find token = some r → ¬ expired r →
            goesOn (resolved (s.store.tares.filter (fun t => t.token != token) ++ [r]) (r.category.getD 0))
              (r.category.getD 0)) ∧
          (s.store.find token = none ∨ (∃ r, s.store.find token = some r ∧ expired r) →
            goesOn (resolved s.store.tares 0) 0))) ∧
      (s.lane.record.direction = some .inbound → s.lane.record.category = none → s.lane.record.token = none →
        s.enterWeighing = entered.report))

/-- The departure (R73, R74): RAISE to the far barrier; refused, the lane is in ASSIST with BARRIER-FAULT; accepted, it
is in DEPARTING with far red and the sign TAKE-TICKET or WAIT, its LANE-STATUS placed then (log 17). Where the arm already
stood UP the wait for the deck to clear begins at once, with far green, PROCEED and the clear-deck limit, and where the
deck is clear too the arm is lowered at once. BACK applied (R83): a waiting frame withdrawn with its requests (log 19),
the capture request closed, the timers stopped, RAISE to the near barrier; refused, ASSIST; accepted, REVERSING with near
green and REVERSE, an admitted inbound visit counted as an orphan whose number the LANE-STATUS carries (log 20); where the
arm already stood UP the reversing condition is tested at once. -/
def Obligations.DepartureAndBackRaiseTheirBarrier : Prop :=
  (∀ s : State,
      let far := s.farEnd
      let raised := (s.raiseBarrier far).1
      let departing : State := State.report { raised.requestHead far .on .off with
        lane := { s.lane with
          state := .departing, sign := if s.lane.ticketed then .takeTicket else .wait, leg := .rising, waitActive := false
          record := { s.lane.record with assist := none } } }
      let shown := departing.requestHead far .off .on
      ((s.barrier far).state = .fault → s.depart = s.enterAssist .barrierFault) ∧
      ((s.barrier far).state ≠ .fault → (s.barrier far).state ≠ .up → s.depart = departing) ∧
      ((s.barrier far).state = .up → s.deck.presence = true ∨ s.active? (.safety far) = true →
        s.depart = { shown with lane := { departing.lane with
          sign := .proceed, leg := .clearing, clearDeckLimit := some s.cfg.clearDeckLimit } }) ∧
      ((s.barrier far).state = .up → s.deck.presence = false → s.active? (.safety far) = false →
        s.depart = { (shown.lowerBarrier far).1.requestHead far .on .off with lane := { departing.lane with
          sign := .blank, leg := .lowering, clearDeckLimit := none } })) ∧
  (∀ s : State,
      let near := s.nearEnd
      let stopped : State := { s with
        weigh := { s.weigh with captureRequest := false }
        posted := if s.lane.asked.isSome = true then
            s.posted.filter (fun p => !isFrameRequest p) ++ [.event .frameWithdraw]
          else s.posted
        lane := { s.lane with asked := none, idWait := none, stabilityLimit := none, clearDeckLimit := none } }
      let raised := (stopped.raiseBarrier near).1
      let leaves := s.lane.record.direction = some .inbound ∧
        (s.lane.record.progress = .admitted ∨ s.lane.record.progress = .released)
      let reversing (orphans : Nat) : State := { raised.requestHeads (some near) with
        lane := { stopped.lane with
          state := .reversing, sign := .reverse, leg := .rising, waitActive := false, orphans := orphans
          record := { s.lane.record with assist := none } } }
      let entered : State := if leaves then
          (reversing (min (s.lane.orphans + 1) 65535)).placeStatus s.lane.record.visitRef
        else (reversing s.lane.orphans).report
      let clear := s.deck.presence = false ∧ s.active? (.safety near) = false ∧ s.active? (.approach near) = false
      ((s.barrier near).state = .fault → s.applyBack = stopped.enterAssist .barrierFault) ∧
      ((s.barrier near).state ≠ .fault → (s.barrier near).state ≠ .up → s.applyBack = entered) ∧
      ((s.barrier near).state = .up → ¬ clear →
        s.applyBack = { entered with lane := { entered.lane with leg := .clearing } }) ∧
      ((s.barrier near).state = .up → clear →
        s.applyBack = { (entered.lowerBarrier near).1 with lane := { entered.lane with leg := .lowering } }))

/-! ### The events of the lane controller -/

/-- The start report (R61, R86): the first event the lane takes puts it in IDLE, or in DECK-BLOCKED with both barriers
sent down and help where presence is true; an OFFLINE station stands as it is. An approach offer is taken in IDLE with
the calibration hold clear, and starts the ID wait, whose expiry puts the lane into ASSIST with NO-TOKEN (R63, R87). -/
def Obligations.StartReportAndApproachOffer : Prop :=
  (∀ (s : State) (presence armed : Bool) (inputs : Vector Bool 14), s.live = true → s.lane.reported = false →
      s.cal.inHand = none →
      let i := Instr.laneStartReport presence inputs armed
      let started : State := { s.took i with lane := { s.lane with reported := true } }
      let lowered := ((started.lowerBarrier .a).1.lowerBarrier .b).1
      (s.offline = true → exec i s = .next started) ∧
      (s.offline = false → presence = false → exec i s = .next started.enterIdle) ∧
      (s.offline = false → presence = true → exec i s = .next ((State.raiseHelp { lowered.requestHeads none with
        lane := { started.lane with
          state := .deckBlocked, sign := .seeOffice, waitActive := false, leg := .rising
          record := { started.lane.record with assist := none } } } .deckBlocked).report))) ∧
  (∀ (s : State) (near : End) (direction : Direction), s.laneTakes = true →
      let i := Instr.laneApproachOffer near direction
      (s.lane.state = .idle → s.lane.calHold = false → exec i s = .next (State.report { (s.took i).requestHeads none with
        lane := { s.lane with
          state := .approach, sign := .stop, idWait := some s.cfg.idWait, waitActive := false, leg := .rising
          record := { s.lane.record with near := some near, direction := some direction, assist := none } } })) ∧
      (s.lane.state ≠ .idle ∨ s.lane.calHold = true → exec i s = .next (s.took i)) ∧
      (s.lane.idWait.isSome = true → s.lane.state = .approach → exec .idWaitExpiry s =
        .next (State.enterAssist { s with lane := { s.lane with idWait := none } } .noToken)) ∧
      (s.lane.idWait = none ∨ s.lane.state ≠ .approach → exec .idWaitExpiry s = .next s))

/-- A token (R64, R81): a reader message that is malformed, or comes where none is awaited, is discarded; one that is
awaited goes into the record with its category, the ID wait stops and the near barrier is sent up; refused, the lane is in
ASSIST with BARRIER-FAULT; accepted, it is in BOARDING, its LANE-STATUS placed then (log 17), and the boarding condition is
tested at once (R65): where it holds the near barrier is lowered again and the lane goes on to WEIGHING, boarded, or to
ASSIST where the LOWER is refused, and otherwise it stays in BOARDING. The office's TOKEN does the same with MANUAL-TOKEN,
and so does the RAISE of a RETRY (R79). -/
def Obligations.TokenSendsTheNearBarrierUp : Prop :=
  (∀ (s : State), s.laneTakes = true →
    let awaited := s.lane.state = .approach ∨ (s.lane.state = .assist ∧ s.lane.record.assist = some .noToken)
    (∀ m, decodeReader m = none ∨ ¬ awaited → exec (.readerMessage m) s = .next s) ∧
    (∀ m token category, decodeReader m = some (token, category) → awaited →
      exec (.readerMessage m) s = .next (State.raiseToBoard { s with lane := { s.lane with
        idWait := none, record := { s.lane.record with token := some token, readerCategory := category } } })) ∧
    (∀ target argument token, target.toNat = s.own.val → decodeToken argument = some token → awaited →
      exec (.token target argument) s = .next (State.raiseToBoard { s.took (.token target argument) with lane := { s.lane with
        idWait := none, lastCommand := some ⟨.token, .done⟩
        record := { s.lane.record with token := some token, manual := true } } }))) ∧
  (∀ t : State,
    let near := t.nearEnd
    let raised := (t.raiseBarrier near).1
    let boards : State := State.report { raised.requestHeads (some near) with lane := { t.lane with
      state := .boarding, sign := .proceed, waitActive := false, leg := .rising
      record := { t.lane.record with assist := none } } }
    let holds := t.deck.presence = true ∧ t.active? (.safety near) = false ∧ t.active? (.beam .a) = false ∧
      t.active? (.beam .b) = false
    ((t.barrier near).state = .fault → t.raiseToBoard = t.enterAssist .barrierFault) ∧
    ((t.barrier near).state ≠ .fault → ¬ holds → t.raiseToBoard = boards) ∧
    ((t.barrier near).state ≠ .fault → holds → (raised.barrier near).state ≠ .fault →
      t.raiseToBoard = State.enterWeighing { (boards.lowerBarrier near).1 with lane := { boards.lane with
        record := { boards.lane.record with boarded := true } } }) ∧
    ((t.barrier near).state ≠ .fault → holds → (raised.barrier near).state = .fault →
      t.raiseToBoard = boards.enterAssist .barrierFault))

/-- The boarding condition (R65): with presence true, the near safety loop clear and both beams clear, each event that
tests it lowers the near barrier and takes the lane to WEIGHING, boarded; a LOWER refused takes it to ASSIST; without the
condition the event changes nothing. That a presence-changed event to false makes the test too, on the presence then held,
is the model's (log 45). -/
def Obligations.BoardingConditionLeadsToWeighing : Prop :=
  ∀ (s : State), s.laneTakes = true → s.lane.state = .boarding →
    let near := s.nearEnd
    let holds := s.deck.presence = true ∧ s.active? (.safety near) = false ∧ s.active? (.beam .a) = false ∧
      s.active? (.beam .b) = false
    ∀ i : Instr, ((∃ p, i = .lanePresenceChanged p) ∨ i = .laneSafetyLoopEvent near false ∨
        (∃ e, i = .laneBeamEvent e false) ∨ i = .laneBarrierArrival near .up) →
      let lowered := ((s.took i).lowerBarrier near).1
      (holds → (s.barrier near).state ≠ .fault → exec i s = .next (State.enterWeighing { lowered with
        lane := { s.lane with record := { s.lane.record with boarded := true } } })) ∧
      (holds → (s.barrier near).state = .fault → exec i s = .next ((s.took i).enterAssist .barrierFault)) ∧
      (¬ holds → exec i s = .next (s.took i))

/-- Presence lost (R75, R86): in WEIGHING, CLAIMING and HELD the transaction is abandoned, a frame that still waits is
withdrawn (log 19) and the lane is IDLE; in DECK-BLOCKED it is IDLE; in IDLE, APPROACH, CLOSING, TICKETING and ASSIST
no step. A barrier fault (R77): in IDLE, DECK-BLOCKED, CLAIMING and CLOSING the lane state stands and a LANE-STATUS shows
the fault; in every other state the lane is in ASSIST with BARRIER-FAULT. An activation of a safety loop or of a beam, and
a near approach release outside REVERSING, take no step (R65, R83); nor does a presence-changed event to true outside
BOARDING, DEPARTING and REVERSING, nor an arrival that the lane is not waiting on (R77). -/
def Obligations.PresenceLostAndBarrierFaultAtTheLane : Prop :=
  (∀ (s : State), s.laneTakes = true →
      let i := Instr.lanePresenceChanged false
      let withdrawn : State := { s.took i with
        posted := ((s.took i).posted.filter (fun p => !isFrameRequest p)) ++ [.event .frameWithdraw]
        lane := { s.lane with asked := none } }
      (s.lane.state = .weighing ∨ s.lane.state = .claiming ∨ s.lane.state = .held →
        (s.lane.asked = none → exec i s = .next (s.took i).enterIdle) ∧
        (s.lane.asked.isSome = true → exec i s = .next withdrawn.enterIdle)) ∧
      (s.lane.state = .deckBlocked → exec i s = .next (s.took i).enterIdle) ∧
      (s.lane.state = .idle ∨ s.lane.state = .approach ∨ s.lane.state = .closing ∨ s.lane.state = .ticketing ∨
        s.lane.state = .assist → exec i s = .next (s.took i)) ∧
      (s.lane.state ≠ .boarding → s.lane.state ≠ .departing → s.lane.state ≠ .reversing →
        exec (.lanePresenceChanged true) s = .next (s.took (.lanePresenceChanged true))) ∧
      (s.lane.state = .departing ∨ s.lane.state = .reversing → s.deck.presence = true →
        exec (.lanePresenceChanged true) s = .next (s.took (.lanePresenceChanged true)))) ∧
  (∀ (s : State) (e : End), s.laneTakes = true →
      let up := Instr.laneBarrierArrival e .up
      let down := Instr.laneBarrierArrival e .down
      let waitsUp := (s.lane.state = .boarding ∧ e = s.nearEnd) ∨
        (s.lane.state = .departing ∧ e = s.farEnd ∧ s.lane.leg = .rising) ∨
        (s.lane.state = .reversing ∧ e = s.nearEnd ∧ s.lane.leg = .rising)
      let waitsDown := s.lane.leg = .lowering ∧
        ((s.lane.state = .departing ∧ e = s.farEnd) ∨ (s.lane.state = .reversing ∧ e = s.nearEnd))
      (¬ waitsUp → exec up s = .next (s.took up)) ∧ (¬ waitsDown → exec down s = .next (s.took down))) ∧
  (∀ (s : State) (e : End) (r : FaultReason), s.laneTakes = true →
      let i := Instr.laneBarrierFault e r
      (s.lane.state = .idle ∨ s.lane.state = .deckBlocked ∨ s.lane.state = .claiming ∨ s.lane.state = .closing →
        exec i s = .next (s.took i).report) ∧
      (s.lane.state ≠ .idle → s.lane.state ≠ .deckBlocked → s.lane.state ≠ .claiming → s.lane.state ≠ .closing →
        exec i s = .next ((s.took i).enterAssist .barrierFault)) ∧
      exec (.laneSafetyLoopEvent e true) s = .next (s.took (.laneSafetyLoopEvent e true)) ∧
      exec (.laneBeamEvent e true) s = .next (s.took (.laneBeamEvent e true)) ∧
      (s.lane.state ≠ .reversing → exec (.nearApproachRelease e) s = .next (s.took (.nearApproachRelease e))))

/-- The way out in DEPARTING (R74): at the far arrival at UP the far head is green, the sign PROCEED and the clear-deck
limit runs; when presence is false and the far safety loop clear, at that arrival or at a later event, the far barrier is
lowered, red, with the sign BLANK, and a LOWER refused leads to ASSIST; at its arrival at DOWN the lane is IDLE; the limit's expiry raises help and is not restarted. The way back in REVERSING
(R83): from the near arrival at UP on, when presence is false and the near safety and approach loops are clear, the near
barrier is lowered, at whichever event finds it so; at its arrival at DOWN the lane is IDLE. -/
def Obligations.DepartingAndReversingEndInIdle : Prop :=
  (∀ (s : State), s.laneTakes = true → s.lane.state = .departing →
      let far := s.farEnd
      let clear := s.deck.presence = false ∧ s.active? (.safety far) = false
      let lowering (i : Instr) : State := { ((s.took i).lowerBarrier far).1.requestHead far .on .off with lane :=
        { s.lane with sign := .blank, leg := .lowering, clearDeckLimit := none } }
      let refused (i : Instr) : State := State.enterAssist { s.took i with lane :=
        { s.lane with clearDeckLimit := none } } .barrierFault
      (s.lane.leg = .rising → ¬ clear →
        let i := Instr.laneBarrierArrival far .up
        exec i s = .next { (s.took i).requestHead far .off .on with lane := { s.lane with
          sign := .proceed, leg := .clearing, clearDeckLimit := some s.cfg.clearDeckLimit } }) ∧
      (s.lane.leg = .rising → clear →
        let i := Instr.laneBarrierArrival far .up
        ((s.barrier far).state ≠ .fault → exec i s = .next (lowering i)) ∧
        ((s.barrier far).state = .fault → exec i s = .next (refused i))) ∧
      (s.lane.leg = .clearing → ¬ clear →
        ∀ i, (i = .lanePresenceChanged false ∨ i = .laneSafetyLoopEvent far false) → exec i s = .next (s.took i)) ∧
      (s.lane.leg = .clearing → clear → (s.barrier far).state = .fault →
        ∀ i, (i = .lanePresenceChanged false ∨ i = .laneSafetyLoopEvent far false) → exec i s = .next (refused i)) ∧
      (s.lane.leg = .clearing → clear → (s.barrier far).state ≠ .fault →
        ∀ i, (i = .lanePresenceChanged false ∨ i = .laneSafetyLoopEvent far false) →
          exec i s = .next (lowering i)) ∧
      (s.lane.leg = .lowering →
        let i := Instr.laneBarrierArrival far .down
        exec i s = .next (s.took i).enterIdle) ∧
      (s.lane.clearDeckLimit.isSome = true → exec .clearDeckLimitExpiry s =
        .next (State.raiseHelp { s with lane := { s.lane with clearDeckLimit := none } } .clearDeck))) ∧
  (∀ (s : State), s.laneTakes = true → s.lane.state = .reversing →
      let near := s.nearEnd
      let clear := s.deck.presence = false ∧ s.active? (.safety near) = false ∧ s.active? (.approach near) = false
      let lowering (i : Instr) : State := { ((s.took i).lowerBarrier near).1 with lane := { s.lane with leg := .lowering } }
      (s.lane.leg = .rising →
        let i := Instr.laneBarrierArrival near .up
        (¬ clear → exec i s = .next { s.took i with lane := { s.lane with leg := .clearing } }) ∧
        (clear → (s.barrier near).state ≠ .fault → exec i s = .next (lowering i))) ∧
      (s.lane.leg = .clearing → ∀ i, (i = .lanePresenceChanged false ∨ i = .laneSafetyLoopEvent near false ∨
          i = .nearApproachRelease near) →
        (clear → (s.barrier near).state ≠ .fault → exec i s = .next (lowering i)) ∧
        (clear → (s.barrier near).state = .fault → exec i s = .next ((s.took i).enterAssist .barrierFault)) ∧
        (¬ clear → exec i s = .next (s.took i))) ∧
      (s.lane.leg = .lowering →
        let i := Instr.laneBarrierArrival near .down
        exec i s = .next (s.took i).enterIdle))

/-- The capture of an inbound transaction (R67, R121): held with the depot time, the stability limit stopped, and what an
earlier capture gave cleared (log 33); in JOINING the lane waits with it (logs 9, 42); otherwise the kind is asked for,
and the claim with the kind, the rate and the tare copy that the store gives, or ASSIST where the category is CLOSED. A
capture outside WEIGHING, or beside one that is held, is discarded. -/
def Obligations.InboundCaptureAsksForAClaim : Prop :=
  ∀ (s : State) (weight : Nat), s.laneTakes = true →
    let i := Instr.capture weight
    let held : Lane := { s.lane with
      stabilityLimit := none
      record := { s.lane.record with
        capture := some (weight, s.peers.clock), net := none, load := none, charge := none, belowMin := false
        tareOver := false } }
    let asked (token : Token) (c : Category) : State := State.requestKind { s.took i with lane := held } token c
    (s.lane.state ≠ .weighing ∨ s.lane.record.capture.isSome = true → exec i s = .next (s.took i)) ∧
    (s.lane.state = .weighing → s.lane.record.capture = none → s.lane.record.direction = some .inbound →
      (s.joining = true → exec i s = .next { s.took i with lane := { held with sign := .wait, waitActive := true } }) ∧
      (∀ token c, s.joining = false → s.lane.record.token = some token → s.lane.record.category = some c →
        (s.store.tariff[c] = none → exec i s = .next ((asked token c).enterAssist .categoryClosed)) ∧
        (∀ kind rate tare, s.kindAnswer token c = .given kind rate tare →
          exec i s = .next { asked token c with
            lane := { held with
              asked := some .claim
              record := { held.record with kind := some kind, rate := some rate, tare := tare } }
            posted := (s.took i).posted ++ [.event (.claimRequest
              { token, kind, category := c, rate, weight, time := s.peers.clock, tare
                manual := s.lane.record.manual })] })))

/-- The lookup of an outbound transaction (R68, R122, R124 to R126), on a capture that is taken, or with the capture held
when the station becomes ACTIVE after a wait. The visit is looked up by the token. A TWO-PASS visit gives the net, the
load direction, the charge at the visit's own rate and BELOW-MIN, and the close is asked for; a net formed already from
the capture held for the same visit stands (log 33). A STORED-TARE visit passes or fails its exit check; no visit gives
ASSIST with UNMATCHED, or in JOINING a wait, with the other fields of the record as they were (log 50); a STORED-TARE visit leaves an earlier net (log 56). -/
def Obligations.OutboundCaptureLooksUpTheVisit : Prop :=
  ∀ (s : State) (token : Token) (weight : Nat) (time : Option DepotTime) (i : Instr) (lane : Lane),
    s.laneTakes = true → s.lane.state = .weighing → s.lane.record.direction = some .outbound →
    s.lane.record.token = some token →
    ((i = .capture weight ∧ time = s.peers.clock ∧ s.lane.record.capture = none ∧
        lane = { s.lane with
          stabilityLimit := none
          record := { s.lane.record with
            capture := some (weight, time), net := none, load := none, charge := none, belowMin := false
            tareOver := false } }) ∨
      (i = .stationActive ∧ s.lane.waitActive = true ∧ s.lane.record.capture = some (weight, time) ∧
        lane = { s.lane with waitActive := false })) →
    let answered (r : TxnRecord) : State := { s.took i with
      answers := { s.answers with lookup := some (s.visits.find token) }
      lane := { lane with record := r } }
    let found (v : VisitRecord) : TxnRecord := { lane.record with
      visitRef := some v.number, visitCopy := some v, kind := some v.claim.kind, rate := some v.claim.rate
      tare := v.claim.tare }
    let closing (r : TxnRecord) (v : VisitRecord) : State := { answered r with
      lane := { lane with record := r, asked := some .close }
      posted := (s.took i).posted ++ [.event (.closeRequest v.number)] }
    (∀ v, s.visits.find token = some v → v.claim.kind = .twoPass →
      let net := max v.claim.weight weight - min v.claim.weight weight
      let stands := lane.record.net.isSome = true ∧ lane.record.visitRef = some v.number
      (stands → exec i s = .next (closing (found v) v)) ∧
      (¬ stands → exec i s = .next (closing { found v with
        net := some net
        load := some (if weight < v.claim.weight then .delivery else if v.claim.weight < weight then .collection else .nil)
        charge := some ((2 * (net * v.claim.rate) + 1000) / 2000)
        belowMin := decide (net < 20 * s.retained.cal.interval), tareOver := false } v))) ∧
    (∀ v tare, s.visits.find token = some v → v.claim.kind = .storedTare → v.claim.tare = some tare →
      let apart := max weight tare - min weight tare
      (apart ≤ s.cfg.tareTolerance * s.retained.cal.interval → exec i s = .next (closing (found v) v)) ∧
      (s.cfg.tareTolerance * s.retained.cal.interval < apart →
        exec i s = .next ((answered (found v)).enterAssist .tareDiscrepancy))) ∧
    (s.visits.find token = none →
      (s.joining = false → exec i s = .next ((answered lane.record).enterAssist .unmatched)) ∧
      (s.joining = true → exec i s = .next { answered lane.record with
        lane := { lane with sign := .wait, waitActive := true } }))

/-- WEIGHING is left for ASSIST when the converter fails or the stability limit expires (R5, R66), and an inbound lane
that waits with its capture goes on when the station is ACTIVE (R67), as an outbound one does (R68, stated with its
lookup); in other states these take no step. The frame the lane asked for is placed (R67, R68, R70, R79): progress
CLAIM-OUT and CLAIMING for an open, CLOSE-OUT and CLOSING for a close, with the capture request closed (R19); a placing
that the lane does not wait for changes nothing. -/
def Obligations.WeighingEndsOrItsFrameIsPlaced : Prop :=
  (∀ (s : State), s.laneTakes = true →
      (s.lane.state = .weighing →
        exec .laneConverterFailed s = .next ((s.took .laneConverterFailed).enterAssist .converterFail) ∧
        (s.lane.stabilityLimit.isSome = true → exec .stabilityLimitExpiry s = .next (s.enterAssist .noCapture)) ∧
        (s.lane.stabilityLimit = none → exec .stabilityLimitExpiry s = .next s) ∧
        (s.lane.waitActive = false → exec .stationActive s = .next (s.took .stationActive)) ∧
        (s.lane.waitActive = true → ∀ token c weight time, s.lane.record.direction = some .inbound →
          s.lane.record.token = some token → s.lane.record.category = some c →
          s.lane.record.capture = some (weight, time) →
          let on : State := { s.took .stationActive with lane := { s.lane with waitActive := false } }
          (s.joining = true → exec .stationActive s = .next { s.took .stationActive with
            lane := { s.lane with sign := .wait } }) ∧
          (s.joining = false → s.store.tariff[c] = none →
            exec .stationActive s = .next ((on.requestKind token c).enterAssist .categoryClosed)) ∧
          (∀ kind rate tare, s.joining = false → s.kindAnswer token c = .given kind rate tare →
            exec .stationActive s = .next { on.requestKind token c with
              lane := { s.lane with
                waitActive := false, asked := some .claim
                record := { s.lane.record with kind := some kind, rate := some rate, tare := tare } }
              posted := (s.took .stationActive).posted ++ [.event (.claimRequest
                { token, kind, category := c, rate, weight, time, tare, manual := s.lane.record.manual })] }))) ∧
      (s.lane.state ≠ .weighing →
        exec .laneConverterFailed s = .next (s.took .laneConverterFailed) ∧
        exec .stabilityLimitExpiry s = .next s ∧
        exec .stationActive s = .next (s.took .stationActive))) ∧
  (∀ (s : State) (n : VisitNumber), s.laneTakes = true →
      let moved (i : Instr) (l : LaneState) (p : Progress) : State := State.report { (s.took i).requestHeads none with
        weigh := { s.weigh with captureRequest := false }
        lane := { s.lane with
          asked := none, state := l, sign := .weighing, waitActive := false, leg := .rising
          record := { s.lane.record with progress := p, assist := none } } }
      (s.lane.record.visitRef = some n →
        (s.lane.asked = some .claim ∨ s.lane.asked = some .reclaim →
          exec (.laneFramePlaced .claim n) s = .next (moved (.laneFramePlaced .claim n) .claiming .claimOut)) ∧
        (s.lane.asked = some .close →
          exec (.laneFramePlaced .close n) s = .next (moved (.laneFramePlaced .close n) .closing .closeOut))) ∧
      (s.lane.record.visitRef ≠ some n ∨ s.lane.asked = none → ∀ k,
        exec (.laneFramePlaced k n) s = .next (s.took (.laneFramePlaced k n))))

/-- The outcome of an open (R69, R76, R84), with no office command pending: ADMITTED releases a TWO-PASS vehicle and
tickets a STORED-TARE one; FULL holds it; DUPLICATE and NOT-DELIVERED go to ASSIST. An outcome that is not the lane's own
counts an orphan where it is ADMITTED, and is discarded otherwise. The outcome of a close (R71, R84): FOUND releases a
STORED-TARE vehicle and tickets a TWO-PASS one; ABSENT and NOT-DELIVERED go to ASSIST; one that is not the lane's own
changes nothing. The entry into TICKETING (R54, R60, R72): the issue is handed to the ticket unit, with the visit's inbound
part for an outbound vehicle and the lane's own otherwise; both heads are red, the sign is WAIT, help is raised with PRINTER
where the printer stands in PAPER-OUT or FAULT, and a LANE-STATUS is placed, after the HELP (the model's order, log 17). -/
def Obligations.OutcomesOfTheLanesFramesAreTaken : Prop :=
  (∀ (s : State) (visit : VisitNumber) (token : Token) (kind : Kind) (rate weight net charge : Nat)
      (time : Option DepotTime) (load : LoadDirection),
      s.lane.record.visitRef = some visit → s.lane.record.token = some token → s.lane.record.kind = some kind →
      s.lane.record.rate = some rate → s.lane.record.capture = some (weight, time) → s.lane.record.net = some net →
      s.lane.record.load = some load → s.lane.record.charge = some charge →
      let r := s.lane.record
      let here : Weighing := ⟨weight, time, s.own⟩
      let entered (q : IssueRequest) : State := { s.requestHeads none with
        posted := s.posted ++ [.event (.issue q)]
        lane := { s.lane with
          state := .ticketing, sign := .wait, waitActive := false, leg := .rising
          record := { r with assist := none } } }
      let issued (q : IssueRequest) : Prop :=
        (s.tickets.printer = .absent ∨ s.tickets.printer = .ready → s.startIssue = (entered q).report) ∧
        (s.tickets.printer = .paperOut ∨ s.tickets.printer = .fault →
          s.startIssue = ((entered q).raiseHelp .printer).report)
      (r.visitCopy = none → ∀ category, r.category = some category → issued {
        visit, token, manual := r.manual, kind, category, rate, inbound := here, outbound := none, tare := r.tare
        net, load, charge, belowMin := r.belowMin, tareOver := r.tareOver }) ∧
      (∀ v, r.visitCopy = some v → issued {
        visit, token, manual := r.manual || v.claim.manual, kind, category := v.claim.category, rate
        inbound := ⟨v.claim.weight, v.claim.time, v.number.opener⟩, outbound := some here, tare := r.tare
        net, load, charge, belowMin := r.belowMin, tareOver := r.tareOver })) ∧
  (∀ (s : State) (n : VisitNumber) (r : ClaimResult), s.laneTakes = true →
      let i := Instr.claimOutcome n r
      let progress (p : Progress) : State := { s.took i with lane := { s.lane with
        record := { s.lane.record with progress := p } } }
      let own := s.lane.state = .claiming ∧ s.lane.record.visitRef = some n ∧ s.lane.record.progress = .claimOut
      (own → s.lane.record.pendingCommand = none →
        (r = .admitted → s.lane.record.kind ≠ some .storedTare → exec i s = .next (progress .released).depart) ∧
        (∀ weight time tare rate, r = .admitted → s.lane.record.kind = some .storedTare →
          s.lane.record.capture = some (weight, time) → s.lane.record.tare = some tare → s.lane.record.rate = some rate →
          let net := weight - tare
          exec i s = .next (State.startIssue { s.took i with lane := { s.lane with record := { s.lane.record with
            progress := .admitted, net := some net, load := some (if tare < weight then .delivery else .nil)
            charge := some ((2 * (net * rate) + 1000) / 2000)
            belowMin := decide (net < 20 * s.retained.cal.interval), tareOver := decide (weight < tare) } } })) ∧
        (r = .full → exec i s = .next (State.report { (s.took i).requestHeads none with lane := { s.lane with
          state := .held, sign := .yardFull, waitActive := false, leg := .rising
          record := { s.lane.record with assist := none } } })) ∧
        (r = .duplicate → exec i s = .next ((progress .none).enterAssist .duplicate)) ∧
        (r = .notDelivered → exec i s = .next ((progress .claimDropped).enterAssist .notDelivered))) ∧
      (¬ own →
        (r = .admitted → exec i s = .next (State.placeStatus { s.took i with lane := { s.lane with
          orphans := min (s.lane.orphans + 1) 65535 } } (some n))) ∧
        (r ≠ .admitted → exec i s = .next (s.took i)))) ∧
  (∀ (s : State) (n : VisitNumber) (r : CloseResult), s.laneTakes = true →
      let i := Instr.closeOutcome n r
      let progress (p : Progress) : State := { s.took i with lane := { s.lane with
        record := { s.lane.record with progress := p } } }
      let own := s.lane.state = .closing ∧ s.lane.record.visitRef = some n ∧ s.lane.record.progress = .closeOut
      (own → s.lane.record.pendingCommand = none →
        (r = .found → s.lane.record.kind = some .storedTare → exec i s = .next (progress .released).depart) ∧
        (r = .found → s.lane.record.kind ≠ some .storedTare → exec i s = .next (progress .closed).startIssue) ∧
        (r = .absent → exec i s = .next ((progress .none).enterAssist .unmatched)) ∧
        (r = .notDelivered → exec i s = .next ((progress .closeDropped).enterAssist .notDelivered))) ∧
      (¬ own → exec i s = .next (s.took i)))

/-- An office command that waits for an outcome (R84): ADMITTED and FOUND discard it, reported refused, and are taken as
they are (R69, R71): a TWO-PASS open and a STORED-TARE close depart, and a STORED-TARE open, with its net and charge
(R123, R124, R126), and a TWO-PASS close are ticketed; any other outcome applies it in place of what it would lead to. -/
def Obligations.PendingCommandIsSettledByTheOutcome : Prop :=
  ∀ (s : State) (n : VisitNumber) (c : HeldCommand), s.laneTakes = true → s.lane.record.pendingCommand = some c →
    s.lane.record.visitRef = some n →
    let settled (i : Instr) (p : Progress) (r : CommandResult) : State := { s.took i with lane := { s.lane with
      lastCommand := some ⟨(match c with | .back => .back | .pass => .pass), r⟩
      record := { s.lane.record with pendingCommand := none, progress := p } } }
    let applied (t : State) : State := match c with
      | .back => t.applyBack
      | .pass => t.applyPass
    (s.lane.state = .claiming → s.lane.record.progress = .claimOut →
      exec (.claimOutcome n .full) s = .next (applied (settled (.claimOutcome n .full) .claimOut .done)) ∧
      exec (.claimOutcome n .duplicate) s = .next (applied (settled (.claimOutcome n .duplicate) .none .done)) ∧
      exec (.claimOutcome n .notDelivered) s =
        .next (applied (settled (.claimOutcome n .notDelivered) .claimDropped .done)) ∧
      (s.lane.record.kind ≠ some .storedTare → ∃ u : State,
        u = (settled (.claimOutcome n .admitted) .claimOut .refused).report ∧
        exec (.claimOutcome n .admitted) s = .next (State.depart { u with lane := { u.lane with
          record := { u.lane.record with progress := .released } } })) ∧
      (∀ weight time tare rate, s.lane.record.kind = some .storedTare → s.lane.record.capture = some (weight, time) →
        s.lane.record.tare = some tare → s.lane.record.rate = some rate → ∃ u : State,
        u = (settled (.claimOutcome n .admitted) .claimOut .refused).report ∧
        exec (.claimOutcome n .admitted) s = .next (State.startIssue { u with lane := { u.lane with
          record := { u.lane.record with
            progress := .admitted, net := some (weight - tare), load := some (if tare < weight then .delivery else .nil)
            charge := some ((2 * ((weight - tare) * rate) + 1000) / 2000)
            belowMin := decide (weight - tare < 20 * s.retained.cal.interval), tareOver := decide (weight < tare) } } }))) ∧
    (s.lane.state = .closing → s.lane.record.progress = .closeOut →
      exec (.closeOutcome n .absent) s = .next (applied (settled (.closeOutcome n .absent) .none .done)) ∧
      exec (.closeOutcome n .notDelivered) s =
        .next (applied (settled (.closeOutcome n .notDelivered) .closeDropped .done)) ∧
      (s.lane.record.kind ≠ some .storedTare → ∃ u : State,
        u = (settled (.closeOutcome n .found) .closeOut .refused).report ∧
        exec (.closeOutcome n .found) s = .next (State.startIssue { u with lane := { u.lane with
          record := { u.lane.record with progress := .closed } } })) ∧
      (s.lane.record.kind = some .storedTare → ∃ u : State,
        u = (settled (.closeOutcome n .found) .closeOut .refused).report ∧
        exec (.closeOutcome n .found) s = .next (State.depart { u with lane := { u.lane with
          record := { u.lane.record with progress := .released } } })))

/-- A removal in HELD (R70, R101): a re-claim of the same visit, with its first number and its whole record, is asked for,
and a further removal adds nothing while it waits; in any other state a removal takes no step. The answers of the ticket
unit (R72): QUEUED for the record's visit marks the transaction released and ticketed, and from TICKETING the lane
departs; REFUSED in TICKETING is ASSIST with TICKETS-EXHAUSTED, and in any other state, ASSIST and DEPARTING among them,
it changes nothing; an answer for another visit changes nothing, and QUEUED in a state other than TICKETING, ASSIST and
DEPARTING changes nothing either (the model's, log 58). PAPER-OUT
and FAULT raise help in TICKETING (R54), and a press raises it in any state (R38). -/
def Obligations.RemovalAndTicketAnswersAtTheLane : Prop :=
  (∀ (s : State) (removed n : VisitNumber) (c : Claim), s.laneTakes = true →
      let i := Instr.removalReport removed
      (s.lane.state = .held → s.lane.asked = none → s.lane.record.visitRef = some n →
        s.lane.record.token = some c.token → s.lane.record.kind = some c.kind → s.lane.record.category = some c.category →
        s.lane.record.rate = some c.rate → s.lane.record.capture = some (c.weight, c.time) →
        s.lane.record.tare = c.tare → s.lane.record.manual = c.manual →
        exec i s = .next { s.took i with
          lane := { s.lane with asked := some .reclaim }
          posted := (s.took i).posted ++ [.event (.reclaim (.openFrame ⟨n, c⟩))] }) ∧
      (s.lane.state ≠ .held ∨ s.lane.asked.isSome = true → exec i s = .next (s.took i))) ∧
  (∀ (s : State) (n : VisitNumber) (k : Nat) (p : PrinterState), s.laneTakes = true →
      let queued := Instr.ticketAnswer n (.queued k)
      let refused := Instr.ticketAnswer n .refused
      let released : State := { s.took queued with lane := { s.lane with
        ticketed := true, record := { s.lane.record with progress := .released } } }
      (s.lane.record.visitRef = some n →
        (s.lane.state = .ticketing → exec queued s = .next released.depart ∧
          exec refused s = .next ((s.took refused).enterAssist .ticketsExhausted)) ∧
        (s.lane.state = .assist ∨ s.lane.state = .departing → exec queued s = .next released) ∧
        (s.lane.state ≠ .ticketing → exec refused s = .next (s.took refused)) ∧
        (s.lane.state ≠ .ticketing → s.lane.state ≠ .assist → s.lane.state ≠ .departing →
          exec queued s = .next (s.took queued))) ∧
      (s.lane.record.visitRef ≠ some n →
        exec queued s = .next (s.took queued) ∧ exec refused s = .next (s.took refused)) ∧
      (s.lane.state = .ticketing → p = .paperOut ∨ p = .fault →
        exec (.lanePrinterState p) s = .next ((s.took (.lanePrinterState p)).raiseHelp .printer)) ∧
      (s.lane.state ≠ .ticketing ∨ (p ≠ .paperOut ∧ p ≠ .fault) →
        exec (.lanePrinterState p) s = .next (s.took (.lanePrinterState p))) ∧
      exec .laneHelpPress s = .next ((s.took .laneHelpPress).raiseHelp .helpButton))

/-- The calibration hold (R87, R177): a request is granted in IDLE, with the sign STOP and CAL-HOLD sent, and refused in
every other state. The service request that awaits the hold then starts its measurement, the scans and activations given
before it dropped (the model's, log 35), or is answered LANE-BUSY with nothing in hand. A release ends a hold that is
held, whatever is in hand: the sign is BLANK and READY is sent; with none held it changes nothing. That the answer is kept
is the model's (log 26). -/
def Obligations.CalibrationHoldIsGrantedInIdle : Prop :=
  ∀ s : State, s.laneTakes = true →
    let i := Instr.calHoldRequest
    let k := Instr.calHoldRelease
    let granted : State := { s.took i with
      lane := { s.lane with calHold := true, sign := .stop }
      answers := { s.answers with hold := some true }
      posted := (s.took i).posted ++ [.event .calHold] }
    let refused : State := { s.took i with answers := { s.answers with hold := some false } }
    (∀ h, s.cal.inHand = some h → h.stage = .awaitingHold →
      (s.lane.state = .idle → exec i s = .next { granted with
        cal := { s.cal with inHand := some { request := h.request, stage := .measuring } }
        posted := granted.posted.filter (fun p => !isMeasurementEvent p) }) ∧
      (s.lane.state ≠ .idle → exec i s = .next { refused with
        cal := { s.cal with inHand := none }
        lines := { s.lines with service := some { code := .laneBusy } } })) ∧
    ((∀ h, s.cal.inHand = some h → h.stage ≠ .awaitingHold) →
      (s.lane.state = .idle → exec i s = .next granted) ∧
      (s.lane.state ≠ .idle → exec i s = .next refused)) ∧
    (s.lane.calHold = true → exec k s = .next { s.took k with
      lane := { s.lane with calHold := false, sign := .blank }
      posted := (s.took k).posted ++ [.event .ready] }) ∧
    (s.lane.calHold = false → exec k s = .next (s.took k))

/-! ### The office commands -/

/-- LANE-COMMANDs that are passed over or refused (R80): one for another station is taken by no step; one for this station
whose argument is out of range, that the lane state does not take, or of a kind that the station does not know, changes
nothing but the last command, REFUSED, and places a LANE-STATUS. That a kind the station does not know stands among the
events given, for want of a row of the table, is the model's (log 12), and so are that the zeros of an argument are not
tested (log 53), and that RETRY is refused while the close of a TOKEN waits (log 59). -/
def Obligations.OfficeCommandsPassedOverOrRefused : Prop :=
  (∀ (s : State) (target : Byte) (argument : List Byte), target.toNat ≠ s.own.val →
    (∀ i ∈ [Instr.token target argument, .category target argument, .retry target argument, .pass target argument,
        .back target argument, .zero target argument, .raise target argument, .lower target argument,
        .helpAck target argument, .barrierReset target argument, .reprint target argument],
      exec i s = .next (s.took i)) ∧
    ∀ code, s.unknownCommand target code = s) ∧
  (∀ (s : State) (target : Byte) (argument : List Byte), s.laneTakes = true → target.toNat = s.own.val →
    let refused (i : Instr) (c : OfficeCommand) : Prop := exec i s = .next (State.report { s.took i with
      lane := { s.lane with lastCommand := some ⟨c, .refused⟩ } })
    let assistFor (r : Reason) : Prop := s.lane.state = .assist ∧ s.lane.record.assist = some r
    (decodeToken argument = none ∨ (s.lane.state ≠ .approach ∧ ¬ assistFor .noToken ∧ ¬ assistFor .unmatched) →
      refused (.token target argument) .token) ∧
    (argumentCategory argument = none ∨ s.lane.record.direction ≠ some .inbound ∨
        (¬ (s.lane.state = .weighing ∧ s.lane.asked = none) ∧ ¬ assistFor .categoryClosed) →
      refused (.category target argument) .category) ∧
    (s.lane.state ≠ .assist ∨ s.lane.asked.isSome = true ∨
        (s.lane.record.progress = .none ∧ s.lane.record.boarded = false ∧ s.lane.record.token = none) →
      refused (.retry target argument) .retry) ∧
    (s.lane.state ∈ [LaneState.idle, .approach, .boarding, .weighing, .departing, .reversing] →
      refused (.pass target argument) .pass) ∧
    (s.lane.state ∈ [LaneState.idle, .ticketing, .departing, .reversing] → refused (.back target argument) .back) ∧
    (s.lane.state ≠ .idle → s.lane.state ≠ .assist → refused (.zero target argument) .zero) ∧
    (argumentEnd argument = none ∨ (s.lane.state ≠ .idle ∧ s.lane.state ≠ .assist) →
      refused (.raise target argument) .raise ∧ refused (.lower target argument) .lower) ∧
    (argumentEnd argument = none → refused (.barrierReset target argument) .barrierReset) ∧
    ∀ code, s.unknownCommand target code = State.report { s with
      lane := { s.lane with lastCommand := some ⟨.unknown code, .refused⟩ } })

/-- HELP-ACK (R56), in any lane state: PENDING becomes ACKNOWLEDGED, and the lamp is ON; otherwise it is refused, changes
nothing else, and the refusal is reported. A raise taken after it places a new HELP and makes the status PENDING again; a
raise taken before it leaves the status PENDING. -/
def Obligations.HelpAckAcknowledgesPendingHelp : Prop :=
  ∀ (s : State) (target : Byte) (argument : List Byte), s.laneTakes = true → target.toNat = s.own.val →
    let i := Instr.helpAck target argument
    let acknowledged : State := State.report { s.took i with
      lane := { s.lane with help := .acknowledged, lastCommand := some ⟨.helpAck, .done⟩ } }
    (s.lane.help = .pending →
      exec i s = .next acknowledged ∧ acknowledged.helpLamp = .on ∧
      ∀ r, let raised := acknowledged.placeHelp r
        acknowledged.raiseHelp r = { raised with lane := { raised.lane with help := .pending, lastHelp := some r } }) ∧
    (s.lane.help = .none ∨ s.lane.help = .acknowledged →
      exec i s = .next (State.report { s.took i with lane := { s.lane with lastCommand := some ⟨.helpAck, .refused⟩ } })) ∧
    (∀ r, (s.raiseHelp r).lane.help = .pending)

/-- RETRY in ASSIST with no frame waiting (R79): by the progress it weighs afresh, sends the near barrier up, asks again
for the same frame, issues the ticket again, or departs; progress CLAIM-OUT asks again whether or not ASSIST was entered
from HELD, and a frame asked for again is reported in ASSIST (the model's, logs 46 and 55). PASS (R82) and BACK (R83) in the states that take them are applied at once, in
DECK-BLOCKED with near and far as the role gives (R86); in CLAIMING and CLOSING they are held, and the one that is replaced
is reported refused (R84), in a LANE-STATUS of its own with no pending command (the model's, log 49). PASS applied
withdraws what waits, the frame with its requests (the model's, log 19) and in
TICKETING the issue, closes the capture request, stops the timers, and departs. -/
def Obligations.RetryPassAndBackAreTaken : Prop :=
  (∀ (s : State) (target : Byte) (argument : List Byte), s.laneTakes = true → target.toNat = s.own.val →
    s.lane.state = .assist → s.lane.asked = none →
    let i := Instr.retry target argument
    let taken : State := { s.took i with lane := { s.lane with lastCommand := some ⟨.retry, .done⟩ } }
    let again (a : Asked) (f : LaneFrame) : State := State.report { taken with
      lane := { taken.lane with asked := some a }, posted := taken.posted ++ [.event (.reclaim f)] }
    let progress := s.lane.record.progress
    (progress = .none → s.lane.record.boarded = true → exec i s = .next taken.enterWeighing) ∧
    (progress = .none → s.lane.record.boarded = false → s.lane.record.token.isSome = true →
      exec i s = .next taken.raiseToBoard) ∧
    (∀ f, progress = .claimDropped ∨ progress = .claimOut → s.lane.record.openFrame = some f →
      exec i s = .next (again .reclaim f)) ∧
    (∀ n, progress = .closeDropped → s.lane.record.visitRef = some n →
      exec i s = .next (again .close (.closeFrame n))) ∧
    ((progress = .admitted ∧ s.lane.record.kind = some .storedTare) ∨
        (progress = .closed ∧ s.lane.record.kind = some .twoPass) → exec i s = .next taken.startIssue) ∧
    (progress = .released → exec i s = .next taken.depart)) ∧
  (∀ (s : State) (target : Byte) (argument : List Byte), s.laneTakes = true → target.toNat = s.own.val →
    let office : HeldCommand → OfficeCommand
      | .back => .back
      | .pass => .pass
    let taken (i : Instr) (c : OfficeCommand) : State := { s.took i with
      lane := { s.lane with lastCommand := some ⟨c, .done⟩ } }
    let ended (i : Instr) (c : OfficeCommand) : State := { taken i c with lane := { (taken i c).lane with record :=
      { s.lane.record with near := some (if s.loader.role = .exit then s.yardEnd else s.cfg.roadEnd) } } }
    (s.lane.state ∈ [LaneState.assist, .held, .ticketing] →
      exec (.pass target argument) s = .next (taken (.pass target argument) .pass).applyPass) ∧
    (s.lane.state = .deckBlocked →
      exec (.pass target argument) s = .next (ended (.pass target argument) .pass).applyPass ∧
      exec (.back target argument) s = .next (ended (.back target argument) .back).applyBack) ∧
    (s.lane.state ∈ [LaneState.approach, .boarding, .weighing, .held, .assist] →
      exec (.back target argument) s = .next (taken (.back target argument) .back).applyBack) ∧
    (∀ i c, (i = .pass target argument ∧ c = HeldCommand.pass) ∨ (i = .back target argument ∧ c = .back) →
      s.lane.state = .claiming ∨ s.lane.state = .closing →
      (s.lane.record.pendingCommand = none → exec i s = .next (State.report { s.took i with lane := { s.lane with
        lastCommand := some ⟨office c, .accepted⟩, record := { s.lane.record with pendingCommand := some c } } })) ∧
      (∀ p, s.lane.record.pendingCommand = some p →
        let u := State.report { s.took i with lane := { s.lane with
          lastCommand := some ⟨office p, .refused⟩, record := { s.lane.record with pendingCommand := none } } }
        exec i s = .next (State.report { u with lane := { u.lane with
          lastCommand := some ⟨office c, .accepted⟩, record := { u.lane.record with pendingCommand := some c } } })))) ∧
  (∀ s : State,
    let issue := match s.lane.state, s.lane.record.visitRef with
      | .ticketing, some n => [.event (.issueWithdraw n)]
      | _, _ => []
    s.applyPass = State.depart { s with
      weigh := { s.weigh with captureRequest := false }
      posted := (if s.lane.asked.isSome = true then
          s.posted.filter (fun p => !isFrameRequest p) ++ [.event .frameWithdraw]
        else s.posted) ++ issue
      lane := { s.lane with asked := none, idWait := none, stabilityLimit := none, clearDeckLimit := none } })

/-- The office commands that other blocks carry out (R81, R85, R139): CATEGORY replaces the category of an inbound
transaction, in ASSIST after the closed question; ZERO is passed to the weighing channel, whose test records and reports
the answer (the model's, log 25); RAISE and LOWER record the barrier unit's answer and change no lane state; REPRINT queues
the last ticket again with REPRINT-COPY, its copy placed where no older one waits and the BULK queue has room (R134), and
the oldest QUEUED entry sent its PRINT where the printer is READY and none is PRINTING (R135), and then reports DONE. TOKEN in ASSIST with UNMATCHED withdraws a close that waits (log 19) and looks the
visit up again with the capture held. A visit found has its net formed, unless it stands from that capture (R122), or its
exit check made, and its close asked for, with a LANE-STATUS (the model's, log 18); none found enters ASSIST anew, or in
JOINING waits in WEIGHING with the capture request opened (the model's, log 18), with what an earlier visit left in the
record (the model's, logs 50 and 56). -/
def Obligations.OfficeCommandsPassedOnAreCarriedOut : Prop :=
  ∀ (s : State) (target : Byte) (argument : List Byte), s.laneTakes = true → target.toNat = s.own.val →
    let reported (t : State) (c : OfficeCommand) (r : CommandResult) : State := State.report { t with
      lane := { t.lane with lastCommand := some ⟨c, r⟩ } }
    let i := Instr.category target argument
    let replaced (c : Category) : Lane := { s.lane with record := { s.lane.record with category := some c } }
    (∀ c, argumentCategory argument = some c → s.lane.record.direction = some .inbound →
      (s.lane.state = .weighing → s.lane.asked = none →
        exec i s = .next (reported { s.took i with lane := replaced c } .category .done)) ∧
      (s.lane.state = .assist → s.lane.record.assist = some .categoryClosed →
        (∀ rate, s.store.tariff[c] = some rate → exec i s = .next (State.enterWeighing { s.took i with
          answers := { s.answers with closed := some false }
          lane := { replaced c with lastCommand := some ⟨.category, .done⟩ } })) ∧
        (s.store.tariff[c] = none → exec i s = .next (reported { s.took i with
          answers := { s.answers with closed := some true } } .category .refused)))) ∧
    (s.lane.state = .idle ∨ s.lane.state = .assist →
      exec (.zero target argument) s = .next { s.took (.zero target argument) with
        posted := (s.took (.zero target argument)).posted ++ [.event .zeroTest] } ∧
      ∀ e, argumentEnd argument = some e →
        let result : CommandResult := if (s.barrier e).state = .fault then .refused else .accepted
        exec (.raise target argument) s =
          .next (reported ((s.took (.raise target argument)).raiseBarrier e).1 .raise result) ∧
        exec (.lower target argument) s =
          .next (reported ((s.took (.lower target argument)).lowerBarrier e).1 .lower result)) ∧
    (s.tickets.last = none ∨ 4 ≤ s.tickets.placesTaken →
      exec (.reprint target argument) s = .next (reported (s.took (.reprint target argument)) .reprint .refused)) ∧
    (∀ t, s.tickets.last = some t → s.tickets.placesTaken < 4 →
      let i := Instr.reprint target argument
      let r : TicketRecord := { t with flags := { t.flags with reprintCopy := true } }
      let copied := (∀ e ∈ s.tickets.queue, e.copyPlaced = true) ∧ s.link.bulk.frames.length < 16
      let queue := s.tickets.queue ++ [{ ticket := r, printState := .queued, copyPlaced := decide copied }]
      let queued : State := { s.took i with
        link := if copied then (State.tryStart { s with link := { s.link with
            bulk := { s.link.bulk with frames := s.link.bulk.frames ++ [ticketCopyFrame r] } } }).link
          else s.link
        tickets := { s.tickets with queue := queue } }
      (s.tickets.printer ≠ .ready ∨ s.tickets.isPrinting = true → exec i s = .next (reported queued .reprint .done)) ∧
      (∀ before e behind, s.tickets.printer = .ready → s.tickets.isPrinting = false → queue = before ++ e :: behind →
        (∀ b ∈ before, b.printState ≠ .queued) → e.printState = .queued → exec i s = .next (reported { queued with
          tickets := { s.tickets with
            queue := before ++ { e with printState := .printing } :: behind, answerLimit := some s.cfg.printerLimit }
          lines := { s.lines with printer := some (.print e.ticket) } } .reprint .done))) ∧
    (∀ token weight time, decodeToken argument = some token → s.lane.state = .assist →
      s.lane.record.assist = some .unmatched → s.lane.record.capture = some (weight, time) →
      let k := Instr.token target argument
      let lane : Lane := { s.lane with
        asked := none, lastCommand := some ⟨.token, .done⟩
        record := { s.lane.record with token := some token, manual := true } }
      let answered (r : TxnRecord) : State := { s.took k with
        answers := { s.answers with lookup := some (s.visits.find token) }
        posted := if s.lane.asked.isSome = true then
            (s.took k).posted.filter (fun p => !isFrameRequest p) ++ [.event .frameWithdraw]
          else (s.took k).posted
        lane := { lane with record := r } }
      let found (v : VisitRecord) : TxnRecord := { lane.record with
        visitRef := some v.number, visitCopy := some v, kind := some v.claim.kind, rate := some v.claim.rate
        tare := v.claim.tare }
      let closing (r : TxnRecord) (v : VisitRecord) : State := State.report { answered r with
        lane := { lane with record := r, asked := some .close }
        posted := (answered r).posted ++ [.event (.closeRequest v.number)] }
      (∀ v, s.visits.find token = some v → v.claim.kind = .twoPass →
        let net := max v.claim.weight weight - min v.claim.weight weight
        let stands := s.lane.record.net.isSome = true ∧ s.lane.record.visitRef = some v.number
        (stands → exec k s = .next (closing (found v) v)) ∧
        (¬ stands → exec k s = .next (closing { found v with
          net := some net
          load := some (if weight < v.claim.weight then .delivery else if v.claim.weight < weight then .collection else .nil)
          charge := some ((2 * (net * v.claim.rate) + 1000) / 2000)
          belowMin := decide (net < 20 * s.retained.cal.interval), tareOver := false } v))) ∧
      (∀ v tare, s.visits.find token = some v → v.claim.kind = .storedTare → v.claim.tare = some tare →
        let apart := max weight tare - min weight tare
        (apart ≤ s.cfg.tareTolerance * s.retained.cal.interval → exec k s = .next (closing (found v) v)) ∧
        (s.cfg.tareTolerance * s.retained.cal.interval < apart →
          exec k s = .next ((answered (found v)).enterAssist .tareDiscrepancy))) ∧
      (s.visits.find token = none →
        (s.joining = false → exec k s = .next ((answered lane.record).enterAssist .unmatched)) ∧
        (s.joining = true → exec k s = .next (State.report { (answered lane.record).requestHeads none with
          weigh := { s.weigh with captureRequest := true, window := [] }
          lane := { lane with
            state := .weighing, sign := .wait, waitActive := true, leg := .rising
            record := { lane.record with assist := none } } }))))

/-! ### The visit table -/

/-- A VISIT-OPEN is taken by four tests in the order given (R95), and its outcome reported at the sender, after the table
has changed (R96); one whose payload is out of range, or whose opener is not its source, is counted malformed (R94). The
weight range in that check (log 14), a wrong length counted malformed (log 29) and the bits of byte 11 that are not read
(log 28) are the model's. -/
def Obligations.VisitOpenIsTakenByFourTests : Prop :=
  ∀ (s : State) (source : Station) (payload : List Byte), s.takesYard = true →
    let i := Instr.visitOpen source payload
    let table := s.visits.table
    (decodeVisitRecord payload = none ∨ (∃ r, decodeVisitRecord payload = some r ∧ r.number.opener ≠ source) →
      exec i s = .next { s.took i with link := { s.link with malformed := min (s.link.malformed + 1) 65535 } }) ∧
    (∀ r, decodeVisitRecord payload = some r → r.number.opener = source →
      let taken (t : List VisitRecord) (outcome : ClaimResult) : State := { s.took i with
        visits := { s.visits with table := t }
        posted := (s.took i).posted ++ if source = s.own then [.event (.claimOutcome r.number outcome)] else [] }
      let numbered := ∃ v ∈ table, v.number = r.number
      let tokened := ∃ v ∈ table, v.claim.token = r.claim.token
      (numbered → exec i s = .next (taken table .admitted)) ∧
      (¬ numbered → tokened → exec i s = .next (taken table .duplicate)) ∧
      (¬ numbered → ¬ tokened → s.cfg.yardLimit ≤ table.length → exec i s = .next (taken table .full)) ∧
      (¬ numbered → ¬ tokened → table.length < s.cfg.yardLimit → exec i s = .next (taken (table ++ [r]) .admitted)))

/-- VISIT-CLOSE (R97, R98, R101), VISIT-VOID (R99, R101) and VISIT-ANNOUNCE (R100): a close removes the visit of its
number, the removal told to the lane before the outcome FOUND, or is counted unmatched; a void removes it or changes
nothing; an announcement is added where its number and its token are new and the table holds fewer than 96 visits, and a
conflict of its token is counted. A cursor that walks takes the removal (R167), and one that waited at the visit removed
goes on by an event of its own (the model's, log 36). Content out of range is counted malformed (R94); the weight range
in that check (log 14), the bits of an announcement that 11.3 does not name and that are not read (log 28) and a wrong
length counted so (log 29) are the model's, and so are the order of the tests of an announcement that several would ignore
(log 48) and the order of the events given, the cursor's before the report of the removal (log 2). -/
def Obligations.CloseVoidAndAnnounceAreTaken : Prop :=
  ∀ (s : State) (source : Station) (payload : List Byte), s.takesYard = true →
    let close := Instr.visitClose source payload
    let void := Instr.visitVoid payload
    let announce := Instr.visitAnnounce payload
    let told (o : CloseResult) (n : VisitNumber) : List Posted :=
      if source = s.own then [.event (.closeOutcome n o)] else []
    (∀ i, (i = close ∨ i = void) ∧ decodeVisitNumber payload = none ∨
        i = announce ∧ decodeVisitRecord payload = none →
      exec i s = .next { s.took i with link := { s.link with malformed := min (s.link.malformed + 1) 65535 } }) ∧
    (∀ n before v behind, decodeVisitNumber payload = some n → s.visits.table = before ++ v :: behind → v.number = n →
      (∀ b ∈ before, b.number ≠ n) →
      let c := s.visits.cursor
      let cursor : Cursor :=
        if c.walking = false then c
        else if before.length < c.position then { c with position := c.position - 1 }
        else if before.length = c.position then (if behind = [] then {} else { c with waiting := none })
        else c
      let goesOn (i : Instr) : List Posted :=
        if c.waiting.isSome = true ∧ cursor.waiting = none ∧ cursor.walking = true ∧
            (Posted.event .cursorAdvance) ∉ (s.took i).posted then [.event .cursorAdvance] else []
      let removed (i : Instr) : State := { s.took i with
        visits := { s.visits with table := before ++ behind, cursor := cursor }
        posted := (s.took i).posted ++ goesOn i ++ [.event (.removalReport n)] }
      exec close s = .next { removed close with posted := (removed close).posted ++ told .found n } ∧
      exec void s = .next (removed void)) ∧
    (∀ n, decodeVisitNumber payload = some n → (∀ v ∈ s.visits.table, v.number ≠ n) →
      exec close s = .next { s.took close with
        visits := { s.visits with unmatched := min (s.visits.unmatched + 1) 65535 }
        posted := (s.took close).posted ++ told .absent n } ∧
      exec void s = .next (s.took void)) ∧
    (∀ r, decodeVisitRecord payload = some r →
      let numbered := ∃ v ∈ s.visits.table, v.number = r.number
      let tokened := ∃ v ∈ s.visits.table, v.claim.token = r.claim.token
      (numbered → exec announce s = .next (s.took announce)) ∧
      (¬ numbered → tokened → exec announce s = .next { s.took announce with
        visits := { s.visits with conflicts := min (s.visits.conflicts + 1) 65535 } }) ∧
      (¬ numbered → ¬ tokened → s.visits.table.length < 96 → exec announce s = .next { s.took announce with
        visits := { s.visits with table := s.visits.table ++ [r] } }) ∧
      (¬ numbered → ¬ tokened → 96 ≤ s.visits.table.length → exec announce s = .next (s.took announce)))

/-- The lane frame slot (R67, R92, R102 to R105), taken once the lane controller has begun (R61), on a station that is not
OFFLINE, and before JOINING too, when the frame waits in its queue (R158): a claim becomes a VISIT-OPEN of the next number, a
close a VISIT-CLOSE, of the payloads that VisitPayloadsRoundTrip gives, and a re-sent frame keeps its number. A frame goes to the tail of the VISIT queue where that has room,
and the lane is told, a new claim spending its sequence; otherwise it stays in the slot until a departure gives room, or a
withdrawal empties it. The number of a new claim is the own station's, in its epoch, and is the number of no visit in the
table. A lookup answers the visit of a token and changes nothing else (R93, R109). Before the start report and on an
OFFLINE station the lane asks for nothing, and these requests take no step. That the number of a claim goes into the record
with the claim is the model's (log 24), and so is that the answer is kept (log 26). -/
def Obligations.LaneFramesGoThroughTheSlot : Prop :=
  (∀ (s : State) (c : Claim) (f : LaneFrame) (n : VisitNumber) (token : Token),
    let handed (i : Instr) (f : LaneFrame) (sequence next : Nat) (isNew : Bool) (lane : Lane) : Prop :=
      (s.link.visit.frames.length < 8 → exec i s = .next { s.took i with
        link := (State.tryStart { s with link := { s.link with
          visit := { s.link.visit with frames := s.link.visit.frames ++ [laneFrameOf f] } } }).link
        visits := { s.visits with slot := none, sequence := next }
        lane := lane
        posted := (s.took i).posted ++ [.event (.laneFramePlaced
          (match f with | .openFrame _ => .claim | .closeFrame _ => .close) f.number)] }) ∧
      (8 ≤ s.link.visit.frames.length → exec i s = .next { s.took i with
        visits := { s.visits with slot := some ⟨f, isNew⟩, sequence := sequence }
        lane := lane })
    let k := s.claimNumber
    let after (n : Nat) : Nat := if 4095 ≤ n then 1 else n + 1
    (s.laneTakes = true →
      handed (.claimRequest c) (.openFrame ⟨k, c⟩) k.sequence (after k.sequence) true
        (if s.lane.state = .weighing ∧ s.lane.asked = some .claim then
          { s.lane with record := { s.lane.record with visitRef := some k } } else s.lane) ∧
      handed (.reclaim f) f s.visits.sequence s.visits.sequence false s.lane ∧
      handed (.closeRequest n) (.closeFrame n) s.visits.sequence s.visits.sequence false s.lane ∧
      exec (.lookup token) s = .next { s with answers := { s.answers with lookup := some (s.visits.find token) } }) ∧
    (s.laneTakes = false →
      exec (.claimRequest c) s = .next (s.took (.claimRequest c)) ∧ exec (.reclaim f) s = .next (s.took (.reclaim f)) ∧
      exec (.closeRequest n) s = .next (s.took (.closeRequest n)) ∧ exec (.lookup token) s = .next s) ∧
    (s.live = true → s.offline = false →
      (s.visits.slot = some ⟨f, false⟩ → handed .visitQueueDeparture f s.visits.sequence s.visits.sequence false s.lane) ∧
      (s.visits.slot = some ⟨f, true⟩ →
        handed .visitQueueDeparture f s.visits.sequence (after s.visits.sequence) true s.lane))) ∧
  (∀ s : State, s.live = true →
    exec .frameWithdraw s = .next { s.took .frameWithdraw with visits := { s.visits with slot := none } } ∧
    (s.visits.slot = none → s.visits.cursor.waiting = none →
      exec .visitQueueDeparture s = .next (s.took .visitQueueDeparture))) ∧
  (∀ (s : State) (token : Token),
    (∀ v, s.visits.find token = some v → v ∈ s.visits.table ∧ v.claim.token = token) ∧
    (s.visits.find token = none → ∀ v ∈ s.visits.table, v.claim.token ≠ token)) ∧
  (∀ (v : VisitRecord) (n : VisitNumber), laneFrameOf (.openFrame v) = ⟨.visitOpen, visitRecordBytes v⟩ ∧
    laneFrameOf (.closeFrame n) = ⟨.visitClose, visitNumberBytes n⟩) ∧
  (∀ s : State, s.visits.Inv →
    let k := s.claimNumber
    k.opener = s.own ∧ k.epoch = s.visits.epoch ∧ 1 ≤ k.sequence ∧ k.sequence ≤ 4095 ∧
    (∀ v ∈ s.visits.table, v.number ≠ k) ∧
    ((∀ v ∈ s.visits.table, v.number ≠ ⟨s.own, s.visits.epoch, s.visits.sequence⟩) →
      k.sequence = s.visits.sequence))

/-- The announce cursor (R108, R164 to R167): a starting event adds its joiner and puts the cursor on the oldest visit; at
each visit the station announces it as its custodian and moves on, waits with the announcement where the VISIT queue is
full or a lane frame waits, or moves on where another station is the custodian; past the tail the walk ends and the set is
empty; a removal before the cursor, at it or behind it is taken by the cursor. That a walk goes on by an event of its own
is the model's (log 36). -/
def Obligations.AnnounceCursorWalksTheTable : Prop :=
  (∀ (s : State) (joiner : Station), s.live = true →
    let i := Instr.cursorStart joiner
    exec .cursorEnable s = .next { s.took .cursorEnable with visits := { s.visits with cursorEnabled := true } } ∧
    (s.visits.cursorEnabled = false → exec i s = .next (s.took i)) ∧
    (s.visits.cursorEnabled = true → s.visits.table = [] →
      exec i s = .next { s.took i with visits := { s.visits with cursor := {} } }) ∧
    (s.visits.cursorEnabled = true → s.visits.table ≠ [] → (Posted.event .cursorAdvance) ∉ (s.took i).posted →
      exec i s = .next { s.took i with
        visits := { s.visits with cursor :=
          { walking := true, position := 0, waiting := none
            joiners := if joiner ∈ s.visits.cursor.joiners then s.visits.cursor.joiners
              else s.visits.cursor.joiners ++ [joiner] } }
        posted := (s.took i).posted ++ [.event .cursorAdvance] })) ∧
  (∀ (s : State) (r : VisitRecord), s.live = true → s.offline = false → s.visits.cursor.walking = true →
    s.visits.table[s.visits.cursor.position]? = some r →
    let frame : Frame := ⟨.visitAnnounce, visitRecordBytes r⟩
    let last := s.visits.table.length = s.visits.cursor.position + 1
    let custodian := custodianOf s.peers.table s.visits.cursor.joiners r.number.opener = some s.own
    let on (t : State) : State := { t with
      visits := { s.visits with cursor := if last then {} else
        { s.visits.cursor with position := s.visits.cursor.position + 1, waiting := none } }
      posted := t.posted ++ if last then [] else [.event .cursorAdvance] }
    let placed (t : State) : State := State.tryStart { t with link := { t.link with
      visit := { t.link.visit with frames := t.link.visit.frames ++ [frame] } } }
    let i := Instr.cursorAdvance
    let k := Instr.visitQueueDeparture
    (s.visits.cursor.waiting = none → (Posted.event .cursorAdvance) ∉ (s.took i).posted →
      (¬ custodian → exec i s = .next (on (s.took i))) ∧
      (custodian → s.visits.slot = none → s.link.visit.frames.length < 8 →
        exec i s = .next (on (placed (s.took i)))) ∧
      (custodian → s.visits.slot.isSome = true ∨ 8 ≤ s.link.visit.frames.length →
        exec i s = .next { s.took i with visits := { s.visits with cursor :=
          { s.visits.cursor with waiting := some r } } })) ∧
    (s.visits.cursor.waiting = some r → s.visits.slot = none → (Posted.event .cursorAdvance) ∉ (s.took k).posted →
      s.link.visit.frames.length < 8 → exec k s = .next (on (placed (s.took k))))) ∧
  (∀ (s : State) (n : VisitNumber) (before behind : List VisitRecord) (v : VisitRecord),
    s.visits.cursor.walking = true → s.visits.table = before ++ v :: behind → v.number = n →
    (∀ b ∈ before, b.number ≠ n) →
    let c := s.visits.cursor
    (s.removeVisit n).visits.cursor =
      (if before.length < c.position then { c with position := c.position - 1 }
        else if before.length = c.position then (if behind = [] then {} else { c with waiting := none })
        else c)) ∧
  (∀ (table : Vector Peer 16) (joiners : List Station) (opener n : Station),
    let candidate (k : Station) : Prop := k ≠ 0 ∧ (table[k]).state = .live ∧
      (table[k]).reportedActive = some true ∧ k ∉ joiners
    custodianOf table joiners opener = some n ↔
      (candidate opener ∧ n = opener) ∨
      (¬ candidate opener ∧ candidate n ∧ ∀ k, candidate k → n ≤ k))

/-! ### The stored tares and the tariff -/

/-- TARE-DROP (R115): the record with its token is removed and the others keep their order; with none the frame is
ignored; a token out of range is counted malformed, and that a payload of another length is too is the model's (log 29);
the visits on site are as they were. The later of a drop and a set stands. -/
def Obligations.TareDropRemovesTheRecord : Prop :=
  (∀ (s : State) (payload : List Byte), s.takesYard = true →
    let i := Instr.tareDrop payload
    (∀ token, payload.length = 8 → decodeToken payload = some token →
      (∀ before r behind, s.store.tares = before ++ r :: behind → r.token = token →
        (∀ b ∈ before ++ behind, b.token ≠ token) →
        exec i s = .next { s.took i with store := { s.store with tares := before ++ behind } }) ∧
      ((∀ r ∈ s.store.tares, r.token ≠ token) → exec i s = .next (s.took i))) ∧
    (decodeToken payload = none →
      exec i s = .next { s.took i with link := { s.link with malformed := min (s.link.malformed + 1) 65535 } })) ∧
  (∀ (t : TareStore) (r : TareRecord),
    ((t.store r).drop r.token).find r.token = none ∧ ((t.drop r.token).store r).tares.getLast? = some r)

/-- TARE-SET (R114): a record replaces the one of its token and stands at the tail, or joins at the tail, in a full table
of 64 in place of the head. TARIFF-SET (R119): the entry of its category is replaced, a rate clamped to 999,999. Content
out of range is counted malformed. The lane's requests (R116, R117, R120, R121): a category is the reader's, or the
default of an unexpired record, or 0; the closed question is answered by the tariff as it stands; a kind request is
answered CLOSED and nothing more, or with the kind, the rate and the tare copy. A lookup moves an unexpired record to the
tail and changes nothing else. That a TARE-SET or a TARIFF-SET of another length is counted malformed (log 29) and that
the answers are kept (log 26) are the model's. -/
def Obligations.StoreTakesFramesAndAnswersTheLane : Prop :=
  (∀ (s : State) (payload : List Byte), s.takesYard = true →
      let i := Instr.tareSet payload
      let k := Instr.tariffSet payload
      let malformed (i : Instr) : Prop := exec i s =
        .next { s.took i with link := { s.link with malformed := min (s.link.malformed + 1) 65535 } }
      let stored (tares : List TareRecord) : State := { s.took i with store := { s.store with tares := tares } }
      (∀ token, payload.length = 14 → decodeToken (field payload 0 8) = some token →
        field payload 8 3 ≠ [0xFF#8, 0xFF#8, 0xFF#8] → (byteAt payload 13).toNat < 16 ∨ byteAt payload 13 = 0xFF#8 →
        let r : TareRecord :=
          { token
            tare := min (fromBe (field payload 8 3)) 80000
            expiry := if field payload 11 2 = [0xFF#8, 0xFF#8] then none else some (fromBe (field payload 11 2))
            category := if byteAt payload 13 = 0xFF#8 then none else some (Fin.ofNat 16 (byteAt payload 13).toNat) }
        let others := s.store.tares.filter (fun t => t.token != token)
        ((∃ t ∈ s.store.tares, t.token = token) → exec i s = .next (stored (others ++ [r]))) ∧
        ((∀ t ∈ s.store.tares, t.token ≠ token) → s.store.tares.length < 64 →
          exec i s = .next (stored (s.store.tares ++ [r]))) ∧
        ((∀ t ∈ s.store.tares, t.token ≠ token) → 64 ≤ s.store.tares.length →
          exec i s = .next (stored (s.store.tares.drop 1 ++ [r])))) ∧
      (payload.length ≠ 14 ∨ decodeToken (field payload 0 8) = none ∨
        field payload 8 3 = [0xFF#8, 0xFF#8, 0xFF#8] ∨
        (16 ≤ (byteAt payload 13).toNat ∧ byteAt payload 13 ≠ 0xFF#8) → malformed i) ∧
      (∀ c : Category, payload.length = 4 → (byteAt payload 0).toNat = c.val →
        let entry := if field payload 1 3 = [0xFF#8, 0xFF#8, 0xFF#8] then none
          else some (min (fromBe (field payload 1 3)) 999999)
        exec k s = .next { s.took k with store := { s.store with tariff := s.store.tariff.set c entry } }) ∧
      (payload.length ≠ 4 ∨ 16 ≤ (byteAt payload 0).toNat → malformed k)) ∧
  (∀ (s : State) (token : Token) (c : Category), s.laneTakes = true →
      let expired (r : TareRecord) : Prop := ∃ t day, s.peers.clock = some t ∧ r.expiry = some day ∧ day < t.day
      let moved (r : TareRecord) : TareStore := { s.store with
        tares := s.store.tares.filter (fun t => t.token != token) ++ [r] }
      let absent : Prop := s.store.find token = none ∨ ∃ r, s.store.find token = some r ∧ expired r
      let resolved (c : Category) : Answers := { s.answers with category := some c }
      let kind (k : KindAnswer) : Answers := { s.answers with kind := some k }
      (exec (.categoryResolution token (some c)) s = .next { s with answers := resolved c }) ∧
      (∀ r, s.store.find token = some r → ¬ expired r →
        exec (.categoryResolution token none) s = .next { s with
          store := moved r, answers := resolved (r.category.getD 0) }) ∧
      (absent → exec (.categoryResolution token none) s = .next { s with answers := resolved 0 }) ∧
      exec (.closedQuestion c) s = .next { s with
        answers := { s.answers with closed := some (decide (s.store.tariff[c] = none)) } } ∧
      (s.store.tariff[c] = none → exec (.kindRequest token c) s = .next { s with answers := kind .closed }) ∧
      (∀ rate, s.store.tariff[c] = some rate →
        (∀ r, s.store.find token = some r → ¬ expired r →
          exec (.kindRequest token c) s = .next { s with
            store := moved r
            answers := kind (if s.cfg.singlePass then .given .storedTare rate (some r.tare) else .given .twoPass rate none) }) ∧
        (absent → exec (.kindRequest token c) s = .next { s with answers := kind (.given .twoPass rate none) })))

/-! ### Tickets and the printer -/

/-- The issue of a ticket (R129 to R132): taken into an empty slot and worked where the queue has a free place, by the
next number, whose commit is asked for; refused at 99,999,999; taken as the same issue or held as the waiting request. At
the commit's completion the number stands as the last ticket number and the record enters the queue at the tail, with its
copy placed where no older one waits and the BULK queue has room (R134); it is the last ticket record, the lane is answered
QUEUED, the oldest QUEUED entry is sent its PRINT where the printer is READY and none is PRINTING (R135), and a waiting
request moves into the slot and is worked. At a BULK departure the copy of the oldest entry not copy-placed is placed where
the queue has room, entries both PRINTED and copy-placed leave the head, and the issue in the slot is worked where that
leaves a free place (R133, R134); a TICKET-COPY has the 24 bytes of 11.3. -/
def Obligations.TicketIsIssuedByItsCommit : Prop :=
  let worked (t : State) : State := match t.tickets.slot with
    | none => t
    | some q =>
      if t.tickets.committing.isSome = true ∨ 4 ≤ t.tickets.queue.length then t
      else if 99999999 ≤ t.retained.lastTicket then { t with
        tickets := { t.tickets with slot := none, waiting := none }
        posted := t.posted ++ [.event (.ticketAnswer q.visit .refused)] ++ (match t.tickets.waiting with
          | none => []
          | some w => [.event (.ticketAnswer w.visit .refused)]) }
      else { t with
        tickets := { t.tickets with
          committing := some (newTicket (t.retained.lastTicket + 1) t.own t.retained.unverified q) }
        retained := { t.retained with commits := t.retained.commits ++ [.ticket (t.retained.lastTicket + 1)] } }
  (∀ (s : State) (q : IssueRequest), s.live = true →
    let i := Instr.issue q
    (s.tickets.slot = none → exec i s = .next (worked { s.took i with tickets := { s.tickets with slot := some q } })) ∧
    (∀ r, s.tickets.slot = some r →
      (r.visit = q.visit → exec i s = .next (s.took i)) ∧
      (r.visit ≠ q.visit → exec i s = .next { s.took i with tickets := { s.tickets with waiting := some q } })) ∧
    (∀ w, s.tickets.waiting = some w →
      exec (.issueWithdraw w.visit) s = .next { s.took (.issueWithdraw w.visit) with
        tickets := { s.tickets with waiting := none } } ∧
      ∀ n, w.visit ≠ n → exec (.issueWithdraw n) s = .next (s.took (.issueWithdraw n)))) ∧
  (∀ (s : State) (n : Nat) (rest : List Commit) (r : TicketRecord), s.live = true →
    s.retained.commits = .ticket n :: rest → s.tickets.committing = some r →
    let copied := (∀ e ∈ s.tickets.queue, e.copyPlaced = true) ∧ (s.offline = true ∨ s.link.bulk.frames.length < 16)
    let queue := s.tickets.queue ++ [{ ticket := r, printState := .queued, copyPlaced := decide copied }]
    let entered : State := { s with
      retained := { s.retained with lastTicket := n, commits := rest }
      link := if copied ∧ s.offline = false then (State.tryStart { s with link := { s.link with
          bulk := { s.link.bulk with frames := s.link.bulk.frames ++ [ticketCopyFrame r] } } }).link
        else s.link
      tickets := { s.tickets with
        queue := queue, committing := none, last := some r, slot := s.tickets.waiting, waiting := none }
      posted := s.posted ++ [.event (.ticketAnswer r.visit (.queued r.number))] }
    (s.tickets.printer ≠ .ready ∨ s.tickets.isPrinting = true →
      exec .ticketCommitDone s = .next (worked entered)) ∧
    (∀ before e behind, s.tickets.printer = .ready → s.tickets.isPrinting = false → queue = before ++ e :: behind →
      (∀ b ∈ before, b.printState ≠ .queued) → e.printState = .queued →
      exec .ticketCommitDone s = .next (worked { entered with
        tickets := { entered.tickets with
          queue := before ++ { e with printState := .printing } :: behind, answerLimit := some s.cfg.printerLimit }
        lines := { s.lines with printer := some (.print e.ticket) } }))) ∧
  (∀ s : State, s.live = true → s.offline = false →
    let i := Instr.bulkQueueDeparture
    let left (q : List TicketEntry) : TicketState := { s.tickets with
      queue := q.dropWhile (fun x => x.printState == .printed && x.copyPlaced) }
    ((∀ e ∈ s.tickets.queue, e.copyPlaced = true) →
      exec i s = .next (worked { s.took i with tickets := left s.tickets.queue })) ∧
    (∀ before e behind, s.tickets.queue = before ++ e :: behind → (∀ b ∈ before, b.copyPlaced = true) →
      e.copyPlaced = false →
      (s.link.bulk.frames.length < 16 → exec i s = .next (worked { s.took i with
        link := (State.tryStart { s with link := { s.link with
          bulk := { s.link.bulk with frames := s.link.bulk.frames ++ [ticketCopyFrame e.ticket] } } }).link
        tickets := left (before ++ { e with copyPlaced := true } :: behind) })) ∧
      (16 ≤ s.link.bulk.frames.length →
        exec i s = .next (worked { s.took i with tickets := left s.tickets.queue })))) ∧
  (∀ (k : Nat) (station : Station) (unverified : Bool) (q : IssueRequest),
    let t := newTicket k station unverified q
    t.number = k ∧ t.station = station ∧ t.visit = q.visit ∧ t.charge = q.charge ∧
    (t.flags.notForTrade = true ↔ unverified = true) ∧ (t.flags.belowMin = true ↔ q.belowMin = true) ∧
    (t.flags.timeNotSet = true ↔ q.inbound.time = none ∨
      (q.kind = .twoPass ∧ ∀ w, q.outbound = some w → w.time = none)) ∧
    (t.flags.tareOver = true ↔ q.tareOver = true ∧ q.kind = .storedTare) ∧
    (t.flags.manualToken = true ↔ q.manual = true) ∧ t.flags.reprintCopy = false) ∧
  (∀ t : TicketRecord,
    let flag (b : Bool) (weight : Nat) : Nat := if b then weight else 0
    ticketCopyFrame t = ⟨.ticketCopy,
      beBytes 4 t.number ++ beBytes 3 (t.visit.opener.val * 1048576 + t.visit.epoch * 4096 + t.visit.sequence) ++
      [BitVec.ofNat 8 (flag (t.kind == .storedTare) 128 + flag t.flags.reprintCopy 64 + flag t.flags.notForTrade 32 +
        flag t.flags.belowMin 16 + flag t.flags.timeNotSet 8 + flag t.flags.tareOver 4 + flag t.flags.manualToken 2)] ++
      (match t.outbound with
        | none => List.replicate 8 0xFF#8
        | some ⟨weight, none, _⟩ => beBytes 3 weight ++ List.replicate 5 0xFF#8
        | some ⟨weight, some time, _⟩ => beBytes 3 weight ++ beBytes 2 time.day ++ beBytes 3 time.second) ++
      beBytes 3 t.net ++ [match t.load with | .nil => 0#8 | .delivery => 1#8 | .collection => 2#8] ++
      beBytes 4 t.charge⟩)

/-- The printer (R131, R133, R135 to R138). While an entry prints, behind those PRINTED whose copy waits: DONE ends it, the
next QUEUED entry is sent its PRINT, entries both PRINTED and copy-placed leave the head, and the issue in the slot is
worked where that leaves a free place; BUSY starts the limit again; PAPER-OUT, FAULT and the limit's expiry put it back to
QUEUED, with the state told to the lane; READY runs on. In READY with nothing printing only PAPER-OUT and FAULT are taken.
In the other states an expiry asks for the status, and an answer is taken as R137 gives, the change to READY with the PRINT
of the oldest QUEUED entry. -/
def Obligations.PrinterAnswersAreTaken : Prop :=
  let worked (t : State) : State := match t.tickets.slot with
    | none => t
    | some q =>
      if t.tickets.committing.isSome = true ∨ 4 ≤ t.tickets.queue.length then t
      else if 99999999 ≤ t.retained.lastTicket then { t with
        tickets := { t.tickets with slot := none, waiting := none }
        posted := t.posted ++ [.event (.ticketAnswer q.visit .refused)] ++ (match t.tickets.waiting with
          | none => []
          | some w => [.event (.ticketAnswer w.visit .refused)]) }
      else { t with
        tickets := { t.tickets with
          committing := some (newTicket (t.retained.lastTicket + 1) t.own t.retained.unverified q) }
        retained := { t.retained with commits := t.retained.commits ++ [.ticket (t.retained.lastTicket + 1)] } }
  (∀ (s : State) (before : List TicketEntry) (e : TicketEntry) (rest : List TicketEntry), s.live = true →
    s.tickets.printer = .ready → s.tickets.queue = before ++ e :: rest → (∀ b ∈ before, b.printState = .printed) →
    e.printState = .printing → (∀ r ∈ rest, r.printState = .queued) →
    let full := some s.cfg.printerLimit
    let back (p : PrinterState) : Result := .next { s with
      tickets := { s.tickets with
        queue := before ++ { e with printState := .queued } :: rest, printer := p, answerLimit := full }
      posted := s.posted ++ [.event (.lanePrinterState p)] }
    let left (behind : List TicketEntry) : List TicketEntry := (before ++ { e with printState := .printed } :: behind).dropWhile
      (fun x => x.printState == .printed && x.copyPlaced)
    (rest = [] → exec .printerDone s = .next (worked { s with
      tickets := { s.tickets with queue := left [], answerLimit := none } })) ∧
    (∀ f behind, rest = f :: behind → exec .printerDone s = .next (worked { s with
      tickets := { s.tickets with
        queue := left ({ f with printState := .printing } :: behind), answerLimit := full }
      lines := { s.lines with printer := some (.print f.ticket) } })) ∧
    exec .printerBusy s = .next { s with tickets := { s.tickets with answerLimit := full } } ∧
    exec .printerReady s = .next s ∧
    exec .printerPaperOut s = back .paperOut ∧ exec .printerFault s = back .fault ∧
    (s.tickets.answerLimit.isSome = true → exec .printerAnswerLimitExpiry s = back .fault)) ∧
  (∀ s : State, s.live = true → s.tickets.printer = .ready → s.tickets.isPrinting = false →
    let wrong (p : PrinterState) : Result := .next { s with
      tickets := { s.tickets with printer := p, answerLimit := some s.cfg.printerLimit }
      posted := s.posted ++ [.event (.lanePrinterState p)] }
    exec .printerReady s = .next s ∧ exec .printerDone s = .next s ∧ exec .printerBusy s = .next s ∧
    exec .printerPaperOut s = wrong .paperOut ∧ exec .printerFault s = wrong .fault) ∧
  (∀ s : State, s.live = true → s.tickets.printer ≠ .ready →
    let turned (p : PrinterState) : State := { s with
      tickets := { s.tickets with printer := p }, posted := s.posted ++ [.event (.lanePrinterState p)] }
    let ready : Prop := s.tickets.isPrinting = false → ∀ i, (i = .printerReady ∨
        (s.tickets.printer = .absent ∧ (i = .printerDone ∨ i = .printerBusy))) →
      ((∀ x ∈ s.tickets.queue, x.printState ≠ .queued) → exec i s = .next { turned .ready with
        tickets := { s.tickets with printer := .ready, answerLimit := none } }) ∧
      (∀ before e rest, s.tickets.queue = before ++ e :: rest → (∀ b ∈ before, b.printState ≠ .queued) →
        e.printState = .queued → exec i s = .next { turned .ready with
          tickets := { s.tickets with
            printer := .ready, answerLimit := some s.cfg.printerLimit
            queue := before ++ { e with printState := .printing } :: rest }
          lines := { s.lines with printer := some (.print e.ticket) } })
    ready ∧
    (s.tickets.printer ≠ .absent → exec .printerDone s = .next s ∧ exec .printerBusy s =
      .next { s with tickets := { s.tickets with answerLimit := some s.cfg.printerLimit } }) ∧
    exec .printerPaperOut s = .next (if s.tickets.printer = .paperOut then s else turned .paperOut) ∧
    exec .printerFault s = .next (if s.tickets.printer = .fault then s else turned .fault) ∧
    (s.tickets.answerLimit.isSome = true → exec .printerAnswerLimitExpiry s = .next { s with
      tickets := { s.tickets with answerLimit := some s.cfg.printerLimit }
      lines := { s.lines with printer := some .statusAsk } }))

/-! ### The yard link -/

/-- The transmit states and the choice of the frame (R144, R145, R155): at the line FREE the head of the URGENT queue is
offered, or of the queue of the first phase, from the pointer on, whose queue holds a frame; the same where a frame is placed
while the line is FREE and nothing is sent, on a station that has begun and is not OFFLINE (R158). A heard frame start makes the
line BUSY; a lost arbitration keeps the frame, its attempt count and the pointer. At a delivery (R147, R154) and at the
fourth failed attempt (R146, R148) the frame leaves its queue, the pointer moves on but for an URGENT frame, the owner is
told, and then the departure. These are the model's: that the outcome on the line comes from outside (log 37); that a
frame is taken at its end only where its start was heard, kept in a flag (log 23); that the line state is followed before
JOINING (log 41); and that LINE_FREE and FRAME_START_HEARD while the station sends, and ARBITRATION_LOST, DELIVERY and
READBACK_MISMATCH with no frame sent, change nothing (log 10). -/
def Obligations.LineOffersAndDeparts : Prop :=
  (∀ s : State, s.live = true →
    (s.link.tx.isSome = true → exec .lineFree s = .next s ∧ exec .frameStartHeard s = .next s ∧
      exec .arbitrationLost s = .next { s with link := { s.link with tx := none, hearing := true } }) ∧
    (s.link.tx = none → exec .arbitrationLost s = .next s ∧
      exec .frameStartHeard s = .next { s with link := { s.link with
        lineFree := false, hearing := s.offline || s.link.begun } } ∧
      (s.link.begun = false ∨ s.offline = true →
        exec .lineFree s = .next { s with link := { s.link with lineFree := true } }) ∧
      (s.link.begun = true → s.offline = false →
        (∀ f rest, s.link.urgent.frames = f :: rest → exec .lineFree s = .next { s with link := { s.link with
          lineFree := false, tx := some ⟨.urgent, f⟩ } }) ∧
        (∀ (j : Fin 16) f rest, s.link.urgent.frames = [] →
          (∀ k : Fin 16, k < j → (s.link.queue (s.cfg.phaseTable[s.link.pointer + k]).name).frames = []) →
          (s.link.queue (s.cfg.phaseTable[s.link.pointer + j]).name).frames = f :: rest →
          exec .lineFree s = .next { s with link := { s.link with
            lineFree := false, pointer := s.link.pointer + j
            tx := some ⟨(s.cfg.phaseTable[s.link.pointer + j]).name, f⟩ } }) ∧
        (s.link.allEmpty = true →
          exec .lineFree s = .next { s with link := { s.link with lineFree := true } })))) ∧
  (∀ (s : State) (q : QueueName) (f : Frame), s.live = true → s.link.tx = some ⟨q, f⟩ →
    let departed : LinkState := { s.link.setQueue q { frames := (s.link.queue q).frames.drop 1, attempts := 0 } with
      pointer := if q = .urgent then s.link.pointer else s.link.pointer + 1
      tx := none }
    let departure : List Posted := match q with
      | .urgent => []
      | .visit => [.event .visitQueueDeparture]
      | .routine => [.event .routineQueueDeparture]
      | .bulk => [.event .bulkQueueDeparture]
    let own : List Posted := match f.kind with
      | .visitOpen => [.event (.visitOpen s.own f.payload)]
      | .visitClose => [.event (.visitClose s.own f.payload)]
      | .visitAnnounce => [.event (.visitAnnounce f.payload)]
      | _ => []
    let dropped : List Posted := match f.kind, decodeVisitNumber (field f.payload 0 3) with
      | .visitOpen, some n => [.event (.claimOutcome n .notDelivered)]
      | .visitClose, some n => [.event (.closeOutcome n .notDelivered)]
      | _, _ => []
    exec .delivery s = .next { s with link := departed, posted := s.posted ++ own ++ departure } ∧
    ((s.link.queue q).attempts < 3 → exec .readbackMismatch s = .next { s with link :=
      { s.link.setQueue q { s.link.queue q with attempts := (s.link.queue q).attempts + 1 } with tx := none } }) ∧
    ((s.link.queue q).attempts = 3 → exec .readbackMismatch s = .next { s with
      link := { departed with drops := min (s.link.drops + 1) 65535 }
      posted := s.posted ++ dropped ++ departure })) ∧
  (∀ s : State, s.live = true → s.link.tx = none →
    exec .delivery s = .next s ∧ exec .readbackMismatch s = .next s) ∧
  (∀ s : State,
    let ready := s.link.begun = true ∧ s.offline = false ∧ s.link.lineFree = true ∧ s.link.tx = none
    (¬ ready ∨ s.link.allEmpty = true → s.tryStart = s) ∧
    (∀ f rest, ready → s.link.urgent.frames = f :: rest →
      s.tryStart = { s with link := { s.link with lineFree := false, tx := some ⟨.urgent, f⟩ } }) ∧
    (∀ (j : Fin 16) f rest, ready → s.link.urgent.frames = [] →
      (∀ k : Fin 16, k < j → (s.link.queue (s.cfg.phaseTable[s.link.pointer + k]).name).frames = []) →
      (s.link.queue (s.cfg.phaseTable[s.link.pointer + j]).name).frames = f :: rest →
      s.tryStart = { s with link := { s.link with
        lineFree := false, pointer := s.link.pointer + j
        tx := some ⟨(s.cfg.phaseTable[s.link.pointer + j]).name, f⟩ } }))

/-- A frame heard to its end (R142, R149, R150, R158): the tests in their order, the first that fails settling it, with
the bad-check or the malformed count; a good frame marks its source heard and goes to the owner of its kind, and an
OFFLINE station hands it to no block; a frame whose start was not heard is not taken (R151; its flag is the model's, log
23). A LANE-COMMAND (11.3) is the command of its code in byte 1, for the target of byte 0, with the argument of bytes 2 to
9: a token, or a category or an end in its first byte; that the bytes 11.3 sends as zeros are not read (log 53), and that a
code of no command is given to the lane as an unknown command (log 12), are the model's. -/
def Obligations.HeardFrameIsTestedInOrder : Prop :=
  (∀ (target code : Byte) (argument : List Byte), argument.length = 8 →
    let event (n : Nat) : Posted := laneCommandEvent (target :: BitVec.ofNat 8 n :: argument)
    [event 1, event 2, event 3, event 4, event 5, event 6, event 7, event 8, event 9, event 10, event 11] =
      [.event (.token target argument), .event (.category target argument), .event (.retry target argument),
        .event (.pass target argument), .event (.back target argument), .event (.zero target argument),
        .event (.helpAck target argument), .event (.barrierReset target argument), .event (.reprint target argument),
        .event (.raise target argument), .event (.lower target argument)] ∧
    (code = 0#8 ∨ 11 < code.toNat → laneCommandEvent (target :: code :: argument) = .unknownCommand target code)) ∧
  (∀ (b : Byte) (rest : List Byte),
    (∀ c : Category, argumentCategory (b :: rest) = some c ↔ b.toNat = c.val) ∧
    (argumentEnd (b :: rest) = some .a ↔ b = 0#8) ∧ (argumentEnd (b :: rest) = some .b ↔ b = 1#8)) ∧
  ∀ (s : State) (f : HeardFrame), s.live = true →
    let source : Station := Fin.ofNat 16 f.ident.toNat
    let spoiled := f.ending = .cutOff ∨ 32 < f.length.toNat ∨ f.check ≠ crc16 (checkedBytes f.ident f.length f.payload)
    let fits (k : FrameKind) : Prop := f.ident.toNat / 256 = k.queue.priority ∧
      (k.officeOnly = true → source = 0) ∧ source ≠ s.own ∧
      f.length.toNat = k.length ∧ f.payload.length = k.length
    let quiet : LinkState := { s.link with hearing := false }
    let handed (owner : List Posted) : Result := .next { s with
      link := quiet, posted := s.posted ++ [.event (.peerHeard source)] ++ owner }
    (s.link.hearing = false → exec (.frameEnd f) s = .next s) ∧
    (s.link.hearing = true →
      (f.ending = .aborted → exec (.frameEnd f) s = .next { s with link := quiet }) ∧
      (f.ending ≠ .aborted → spoiled → exec (.frameEnd f) s = .next { s with
        link := { quiet with badCheck := min (s.link.badCheck + 1) 65535 } }) ∧
      (f.ending ≠ .aborted → ¬ spoiled →
        (∀ k, kindOfCode (f.ident.toNat / 16 % 16) = some k → ¬ fits k → exec (.frameEnd f) s = .next { s with
          link := { quiet with malformed := min (s.link.malformed + 1) 65535 } }) ∧
        (f.ident.toNat / 16 % 16 = 15 → exec (.frameEnd f) s = .next { s with
          link := { quiet with malformed := min (s.link.malformed + 1) 65535 } }) ∧
        (∀ k, kindOfCode (f.ident.toNat / 16 % 16) = some k → fits k →
          (s.offline = true → exec (.frameEnd f) s = .next { s with link := quiet }) ∧
          (s.offline = false → exec (.frameEnd f) s = handed (match k with
            | .help => []
            | .laneCommand => [laneCommandEvent f.payload]
            | .visitOpen => [.event (.visitOpen source f.payload)]
            | .visitClose => [.event (.visitClose source f.payload)]
            | .visitVoid => [.event (.visitVoid f.payload)]
            | .visitAnnounce => [.event (.visitAnnounce f.payload)]
            | .hello => [.event (.hello source f.payload)]
            | .presence => [.event (.presence source f.payload)]
            | .timeSet => [.event (.timeSet f.payload)]
            | .tareSet => [.event (.tareSet f.payload)]
            | .tareDrop => [.event (.tareDrop f.payload)]
            | .tariffSet => [.event (.tariffSet f.payload)]
            | .calNotice => []
            | .ticketCopy => []
            | .laneStatus => [])))))

/-! ### Peers and the depot clock -/

/-- The peer monitor (R159 to R164, R168, R169): a good frame marks its source LIVE; a HELLO or a PRESENCE that passes the
check records its source, and starts the cursor while the station is ACTIVE, a PRESENCE only where the recorded boot count
differs; TIME-SET sets the clock unless its second is 86,400 or more; the join window's expiry makes the station ACTIVE;
the heartbeat places a PRESENCE where there is room, of the bytes of 11.3; the tick ages every LIVE and SILENT entry but
the own one. The bounds of PRESENCE's lane state and visit count are deduced (log 28); that a payload of another length is
counted malformed (log 29), and the order of the two events at the join window's expiry (log 2) are the model's. -/
def Obligations.PeerMonitorTakesItsEvents : Prop :=
  (∀ (s : State) (source : Station) (payload : List Byte), s.takesYard = true →
    let entry : Peer := s.peers.table[source]
    let put (i : Instr) (p : Peer) : State := { s.took i with
      peers := { s.peers with table := s.peers.table.set source p } }
    let malformed (i : Instr) : Prop := exec i s =
      .next { s.took i with link := { s.link with malformed := min (s.link.malformed + 1) 65535 } }
    let carried := fromBe (field payload 0 4)
    let starts (i : Instr) (b : Prop) [Decidable b] : List Posted :=
      (s.took i).posted ++ if s.peers.station = .active ∧ b then [.event (.cursorStart source)] else []
    let hello := Instr.hello source payload
    let presence := Instr.presence source payload
    let timeSet := Instr.timeSet payload
    let helloOk := source ≠ 0 ∧ payload.length = 5 ∧ (byteAt payload 4).toNat ≤ 2
    let presenceOk := source ≠ 0 ∧ payload.length = 21 ∧ (byteAt payload 4).toNat ≤ 2 ∧
      (byteAt payload 5 = 1#8 ∨ byteAt payload 5 = 2#8) ∧ (byteAt payload 6).toNat ≤ 11 ∧ (byteAt payload 7).toNat ≤ 96
    exec (.peerHeard source) s = .next (put (.peerHeard source) { entry with state := .live, sinceHeard := 0 }) ∧
    (helloOk → exec hello s = .next { put hello { entry with bootCount := some carried, reportedActive := some false } with
      posted := starts hello True }) ∧
    (¬ helloOk → malformed hello) ∧
    (presenceOk → exec presence s = .next { put presence { entry with
        bootCount := some carried, reportedActive := some (decide (byteAt payload 5 = 2#8)) } with
      posted := starts presence (entry.bootCount.isSome = true ∧ entry.bootCount ≠ some carried) }) ∧
    (¬ presenceOk → malformed presence) ∧
    (payload.length = 5 → fromBe (field payload 2 3) < 86400 → exec timeSet s = .next { s.took timeSet with
      peers := { s.peers with clock := some ⟨fromBe (field payload 0 2), fromBe (field payload 2 3)⟩ } }) ∧
    (payload.length = 5 → 86400 ≤ fromBe (field payload 2 3) → exec timeSet s = .next (s.took timeSet)) ∧
    (payload.length ≠ 5 → malformed timeSet)) ∧
  (∀ s : State, s.live = true →
    (s.peers.joinWindow.isSome = true → exec .joinWindowExpiry s = .next { s with
      peers := { s.peers with
        table := s.peers.table.set s.own { s.peers.table[s.own] with reportedActive := some true }
        station := .active, joinWindow := none }
      posted := s.posted ++ [.event .stationActive, .event .cursorEnable] }) ∧
    (s.peers.joinWindow = none → exec .joinWindowExpiry s = .next s) ∧
    (s.peers.heartbeat = none → exec .heartbeatExpiry s = .next s) ∧
    (s.peers.heartbeat.isSome = true → s.offline = false → s.link.begun = true →
      let again : PeerMonitor := { s.peers with heartbeat := some s.cfg.heartbeat }
      (s.link.routine.frames.length < 8 → exec .heartbeatExpiry s = .next { s with
        link := (State.tryStart { s with link := { s.link with
          routine := { s.link.routine with frames := s.link.routine.frames ++ [presenceFrame s] } } }).link
        peers := again }) ∧
      (8 ≤ s.link.routine.frames.length → exec .heartbeatExpiry s = .next { s with peers := again })) ∧
    (let flag (b : Bool) (weight : Nat) : Nat := if b then weight else 0
     presenceFrame s = ⟨.presence,
        beBytes 4 ((s.peers.table[s.own].bootCount).getD 0) ++
          ([ (match s.loader.role with | .entry => 0 | .exit => 1 | .both => 2 | .offline => 3),
             (match s.peers.station with | .offline => 0 | .joining => 1 | .active => 2),
             s.lane.state.code, s.visits.table.length,
             flag s.loader.configDefault 128 + flag s.weigh.zeroRange 64 + flag s.retained.unverified 32 +
               (match s.tickets.printer with | .absent => 0 | .ready => 1 | .paperOut => 2 | .fault => 3) ] :
            List Nat).map (BitVec.ofNat 8) ++
          [s.link.badCheck, s.link.drops, s.link.malformed, s.link.statusDiscards, s.visits.unmatched,
            s.visits.conflicts].flatMap (beBytes 2)⟩) ∧
    (s.peers.ticking = false → exec .peerTick s = .next s) ∧
    (s.peers.ticking = true → ∃ t : State, exec .peerTick s = .next t ∧
      t = { s with peers := { s.peers with table := t.peers.table } } ∧
      ∀ n : Station,
        let p : Peer := s.peers.table[n]
        let older := min (p.sinceHeard + 1) 65535
        t.peers.table[n] =
          if n = s.own ∨ p.state = .unknown then p
          else { p with
            sinceHeard := older
            state := if p.state = .live ∧ older < s.cfg.silence * s.cfg.heartbeat then .live else .silent }))

/-- The depot clock (R170): set, each tick is a second, from 86,399 to 0 of the next day, and from day 65,535 to 0; NOT-SET
it does not run. On day 0 no record is expired. -/
def Obligations.ClockTickAdvancesTheSetClock : Prop :=
  (∀ s : State, s.live = true →
    let at' (day second : Nat) : Result := .next { s with peers := { s.peers with clock := some ⟨day, second⟩ } }
    (s.peers.clock = none → exec .clockTick s = .next s) ∧
    (∀ day second, s.peers.clock = some ⟨day, second⟩ → day ≤ 65535 →
      (second < 86399 → exec .clockTick s = at' day (second + 1)) ∧
      (second = 86399 → day < 65535 → exec .clockTick s = at' (day + 1) 0) ∧
      (second = 86399 → day = 65535 → exec .clockTick s = at' 0 0))) ∧
  (∀ (r : TareRecord) (second : Nat), r.expired (some ⟨0, second⟩) = false)

/-! ### Calibration -/

/-- The service requests (R175 to R180, R182): a read is served at once, with the content that 11.3 gives byte by byte; each
other request is settled by the first of the tests that applies, BUSY, then RANGE for a bad layout, then LOCKED, then its
own; CAL-ZERO and CAL-SPAN ask for the hold, which an OFFLINE station counts as granted; CAL-CORNER, CAL-INTERVAL, CAL-LOCK
and CAL-ERASE ask for their commit. That a measurement which starts drops the scans and activations given before it (log
35), that STATUS reports the request in hand and its 16 counted scans during the commit that follows (log 15), and the
fields that hold a value before their rule has acted (log 7) are the model's. -/
def Obligations.ServiceRequestsAreSettledByTheFirstTest : Prop :=
  ∀ s : State, s.live = true →
    let answered (c : ServiceCode) (content : List Byte) : Result :=
      .next { s with lines := { s.lines with service := some ⟨c, content⟩ } }
    let committing (r : CalRequest) (w : CalWrite) : Result := .next { s with
      cal := { s.cal with inHand := some { request := r, stage := .committing } }
      retained := { s.retained with commits := s.retained.commits ++ [.cal w] } }
    let held (r : CalRequest) : Result := if s.offline = true then
        .next { s with
          cal := { s.cal with inHand := some { request := r, stage := .measuring } }
          posted := s.posted.filter (fun p => !isMeasurementEvent p) }
      else
        .next { s with
          cal := { s.cal with inHand := some { request := r, stage := .awaitingHold } }
          posted := s.posted ++ [.event .calHoldRequest] }
    let disturbed := (s.cfg.deckLoopFitted = true ∧ s.active? .deckLoop = true) ∨ s.active? (.beam .a) = true ∨
      s.active? (.beam .b) = true
    let flag (b : Bool) (weight : Nat) : Nat := if b then weight else 0
    let bytes (l : List Nat) : List Byte := l.map (BitVec.ofNat 8)
    let counts2 (l : List Nat) : List Byte := l.flatMap (beBytes 2)
    let cal := s.retained.cal
    let calRead : List Byte :=
      (List.finRange 8).flatMap (fun c => signedBytes 3 cal.z[c]) ++ (List.finRange 8).flatMap (fun c => beBytes 3 cal.k[c]) ++
        beBytes 3 cal.span ++ bytes [cal.interval] ++ beBytes 3 cal.capacity ++
        bytes [cal.cellCount, flag s.retained.lockEngaged 128 + flag s.retained.unverified 64] ++
        beBytes 2 s.retained.audit
    let w := s.weigh
    let kept (c : Channel) : Option Int := w.lastScan.bind fun r => (r.counts.find? fun p => p.1 == c).map (·.2)
    let scan : Nat := match w.lastScan with
      | none => 0
      | some ⟨none, _⟩ => 64
      | some ⟨some (c, .noAnswer), _⟩ => 128 + 16 + (c.val + 1)
      | some ⟨some (c, .wrongChannel), _⟩ => 128 + 32 + (c.val + 1)
      | some ⟨some (c, .overrange), _⟩ => 128 + 48 + (c.val + 1)
    let weighPart : List Byte :=
      bytes [scan, ((List.finRange 8).map fun c => flag (kept c).isSome (2 ^ c.val)).sum] ++
        (List.finRange 8).flatMap (fun c => signedBytes 3 ((kept c).getD 0)) ++
        bytes [(match w.monitor with | .warming => 0 | .running => 64 | .failed => 128) + w.faultCount, w.goodCount] ++
        (match w.lastMass with | none => bytes [128, 0, 0, 0, 0] | some m => signedBytes 5 m) ++
        bytes [(match w.current with | .noWeight => 0 | .valid _ => 64 | .overload => 128 | .underzero => 192) +
          flag w.stable 32] ++
        (match w.current with | .valid kg => signedBytes 3 kg | _ => bytes [255, 255, 255]) ++
        signedBytes 3 w.zero ++ bytes [flag w.zeroSet 128 + flag w.zeroRange 64] ++ [s.cfg.channelMap]
    let arm (b : BarrierUnit) : Nat := b.state.code * 32 + (b.reason.map FaultReason.code).getD 0 * 8 +
      flag b.lowerPending 4 + flag b.travel.isSome 2
    let deckPart : List Byte :=
      beBytes 2 ((List.finRange 14).map fun i => flag s.deck.debounced[i] (2 ^ (15 - i.val))).sum ++
        bytes [ (match s.deck.choice with
                  | .shut => 0
                  | .opened => 64
                  | .chosen near direction => 128 + flag (near == .b) 32 + flag (direction == .outbound) 16),
                arm s.barrierA, arm s.barrierB,
                (s.lampsShown .a).1.code * 64 + (s.lampsShown .a).2.code * 16 + (s.lampsShown .b).1.code * 4 +
                  (s.lampsShown .b).2.code,
                s.tickets.queue.length * 32 +
                  (match s.tickets.queue.head?.map TicketEntry.printState with
                    | none => 0 | some .queued => 8 | some .printing => 16 | some .printed => 24) +
                  (match s.tickets.printer with | .absent => 0 | .ready => 1 | .paperOut => 2 | .fault => 3) ]
    let linkPart : List Byte :=
      bytes [ s.link.urgent.frames.length, s.link.visit.frames.length, s.link.routine.frames.length,
              s.link.bulk.frames.length, s.link.pointer.val * 16 + flag s.cfg.phaseFromImage 1 ] ++
        counts2 [s.link.badCheck, s.link.drops, s.link.malformed, s.link.statusDiscards, s.link.helpLost]
    let peer (p : Peer) : List Byte :=
      bytes [flag p.bootCount.isSome 128 + (match p.state with | .unknown => 0 | .live => 1 | .silent => 2)] ++
        beBytes 4 (p.bootCount.getD 0) ++ beBytes 2 (match p.state with | .unknown => 0 | _ => p.sinceHeard)
    let peersPart : List Byte :=
      bytes [match s.peers.station with | .offline => 0 | .joining => 1 | .active => 2] ++
        (List.finRange 16).flatMap (fun n => peer s.peers.table[n]) ++
        (match s.peers.clock with
          | none => bytes [255, 255, 255, 255, 255]
          | some t => beBytes 2 t.day ++ beBytes 3 t.second)
    let cursor := s.visits.cursor
    let cursorPart : List Byte :=
      bytes [flag cursor.walking 128 + flag cursor.waiting.isSome 64] ++
        (match cursor.walking, s.visits.table[cursor.position]? with
          | true, some v => visitNumberBytes v.number
          | _, _ => bytes [0, 0, 0]) ++
        beBytes 2 ((List.finRange 16).map fun n => flag (cursor.joiners.contains n) (2 ^ n.val)).sum
    let calPart : List Byte :=
      bytes [ (match s.cal.inHand.map CalInHand.request with
                | none => 0 | some .zero => 3 | some (.span _) => 4 | some .corner => 5 | some .interval => 6
                | some .lock => 7 | some .erase => 8),
              (s.cal.inHand.map CalInHand.scans).getD 0, flag s.loader.configDefault 128 ]
    exec .calRead s = answered .ok calRead ∧
    exec .status s = answered .ok (weighPart ++ deckPart ++ linkPart ++ peersPart ++ cursorPart ++ calPart) ∧
    ∀ (mass capacity factor : BitVec 24) (interval channel : Byte),
      let lockable : List Instr :=
        [.calZero, .calSpan mass, .calCorner channel factor, .calInterval interval capacity, .calLock]
      let d := interval.toNat
      let cornerOk := 1 ≤ channel.toNat ∧ channel.toNat ≤ 8 ∧ s.cfg.channelMap.getLsbD (channel.toNat - 1) = true ∧
        49152 ≤ factor.toNat ∧ factor.toNat ≤ 81920
      let intervalOk := (d = 5 ∨ d = 10 ∨ d = 20 ∨ d = 50) ∧ 10000 ≤ capacity.toNat ∧ capacity.toNat ≤ 80000 ∧
        capacity.toNat % d = 0 ∧ capacity.toNat ≤ 10000 * d
      (s.cal.inHand.isSome = true → ∀ i ∈ lockable ++ [.calErase, .badServiceRequest], exec i s = answered .busy []) ∧
      (s.cal.inHand = none →
        exec .badServiceRequest s = answered .range [] ∧
        exec .calErase s = committing .erase .erase ∧
        (s.retained.lockEngaged = true → ∀ i ∈ lockable, exec i s = answered .locked []) ∧
        (s.retained.lockEngaged = false →
          (disturbed → exec .calZero s = answered .unstable []) ∧
          (¬ disturbed → exec .calZero s = held .zero) ∧
          (1 ≤ mass.toNat ∧ mass.toNat ≤ 80000 → exec (.calSpan mass) s = held (.span mass.toNat)) ∧
          (¬ (1 ≤ mass.toNat ∧ mass.toNat ≤ 80000) → exec (.calSpan mass) s = answered .range []) ∧
          (cornerOk → exec (.calCorner channel factor) s =
            committing .corner (.corner (Fin.ofNat 8 (channel.toNat - 1)) factor.toNat)) ∧
          (¬ cornerOk → exec (.calCorner channel factor) s = answered .range []) ∧
          (intervalOk → exec (.calInterval interval capacity) s = committing .interval (.interval d capacity.toNat)) ∧
          (¬ intervalOk → exec (.calInterval interval capacity) s = answered .range []) ∧
          (s.retained.cal.cellCount = (scanList s.cfg.channelMap).length → exec .calLock s = committing .lock .lock) ∧
          (s.retained.cal.cellCount ≠ (scanList s.cfg.channelMap).length → exec .calLock s = answered .range [])))

/-- A measurement (R177 to R179): a CELL-FAULT scan, a beam, and for a CAL-ZERO the deck loop end it; each GOOD scan adds
its counts and its sum; the sixteenth asks for the commit of the new zeros, or of the new span where A_avg and S lie in
their ranges. With none that measures, scans and activations are dropped. -/
def Obligations.MeasurementCountsSixteenScans : Prop :=
  ∀ (s : State), s.live = true →
    let ended (i : Instr) (c : ServiceCode) : Result := .next { s.took i with
      cal := { s.cal with inHand := none }
      posted := (s.took i).posted ++ if s.offline then [] else [.event .calHoldRelease]
      lines := { s.lines with service := some { code := c } } }
    (∀ h, s.cal.inHand = some h → h.stage = .measuring →
      exec (.calScan .cellFault) s = ended (.calScan .cellFault) .cellFault ∧
      exec (.calInterrupt .beam) s = ended (.calInterrupt .beam) .unstable ∧
      (h.request = .zero → exec (.calInterrupt .deckLoop) s = ended (.calInterrupt .deckLoop) .unstable) ∧
      (∀ mass, h.request = .span mass →
        exec (.calInterrupt .deckLoop) s = .next (s.took (.calInterrupt .deckLoop))) ∧
      ∀ counts sum,
        let i := Instr.calScan (.good counts sum)
        let added : CalInHand := { h with
          sums := counts.foldl (fun v p => v.set p.1 (v[p.1] + p.2)) h.sums
          sumA := h.sumA + sum
          scans := h.scans + 1 }
        let asks (w : CalWrite) : Result := .next { s.took i with
          cal := { s.cal with inHand := some { added with stage := .committing } }
          retained := { s.retained with commits := s.retained.commits ++ [.cal w] } }
        let cells := scanList s.cfg.channelMap
        let average := roundHalfAway added.sumA 16
        (h.scans ≠ 15 → exec i s = .next { s.took i with cal := { s.cal with inHand := some added } }) ∧
        (h.scans = 15 → h.request = .zero →
          exec i s = asks (.zero (cells.map (fun c => (c, roundHalfAway added.sums[c] 16))) cells.length)) ∧
        (∀ mass, h.scans = 15 → h.request = .span mass →
          let span := (2 * (mass * 1000 * 65536) + average.toNat) / (2 * average.toNat)
          (average < 10000 → exec i s = ended i .range) ∧
          (10000 ≤ average → 1 ≤ span ∧ span ≤ 16777215 → exec i s = asks (.span span)) ∧
          (10000 ≤ average → ¬ (1 ≤ span ∧ span ≤ 16777215) → exec i s = ended i .range))) ∧
    (s.cal.inHand = none ∨ (∃ h, s.cal.inHand = some h ∧ h.stage ≠ .measuring) → ∀ sample cause,
      exec (.calScan sample) s = .next (s.took (.calScan sample)) ∧
      exec (.calInterrupt cause) s = .next (s.took (.calInterrupt cause)))

/-- The completion of a calibration write (R178 to R183): its values and UNVERIFIED take effect, then Z, the zero state
and the window change as the request's rule gives, then a CAL-NOTICE is owed, and OK is sent last; a lock clears UNVERIFIED
and an erasure restores the defaults, each counted by the audit counter. A notice waits where the ROUTINE queue has no
room, and is handed again at a ROUTINE departure; its 4 bytes are those of 11.3. -/
def Obligations.CalibrationWriteCompletes : Prop :=
  (∀ (s : State) (w : CalWrite) (rest : List Commit), s.live = true → s.retained.commits = .cal w :: rest →
    let r : Retained := { s.retained with commits := rest }
    let written (r : Retained) (weigh : WeighState) : State := { s with retained := r, weigh := weigh }
    let ok (t : State) : State := { t with
      cal := { t.cal with inHand := none }, lines := { t.lines with service := some { code := .ok } } }
    let released (t : State) : State := { t with
      posted := t.posted ++ if s.offline then [] else [.event .calHoldRelease] }
    let noticed (t : State) (e : NoticeEvent) : State :=
      t.handNotice ⟨e, t.retained.lockEngaged, t.retained.unverified, t.retained.audit⟩
    let erased : Retained := { r with
      cal := {}, lockEngaged := false, unverified := true, audit := min (s.retained.audit + 1) 65535 }
    let emptied : WeighState := { s.weigh with window := [] }
    let unset : WeighState := { s.weigh with window := [], zero := 0, zeroSet := false }
    let i := Instr.calCommitDone
    (∀ values cells, w = .zero values cells → exec i s = .next (ok (released (written
      { r with
        cal := { r.cal with z := values.foldl (fun v p => v.set p.1 p.2) r.cal.z, cellCount := cells }
        unverified := true }
      { s.weigh with window := [], zero := 0, zeroSet := true })))) ∧
    (∀ factor, w = .span factor → exec i s = .next (ok (released (written
      { r with cal := { r.cal with span := factor }, unverified := true } emptied)))) ∧
    (∀ c factor, w = .corner c factor → exec i s = .next (ok (written
      { r with cal := { r.cal with k := r.cal.k.set c factor }, unverified := true } emptied))) ∧
    (∀ d capacity, w = .interval d capacity → exec i s = .next (ok (written
      { r with cal := { r.cal with interval := d, capacity := capacity }, unverified := true } unset))) ∧
    (w = .lock → exec i s = .next (ok (noticed (written
      { r with lockEngaged := true, unverified := false, audit := min (s.retained.audit + 1) 65535 } s.weigh) .lock))) ∧
    (w = .erase → exec i s = .next (ok (noticed (written erased unset) .erase))) ∧
    (w = .startErase → exec i s = .next (noticed (written erased unset) .startErase)) ∧
    (w = .flagUnverified → exec i s = .next (written { r with unverified := true } s.weigh))) ∧
  (∀ (s : State) (n : CalNotice), s.offline = false →
    (s.link.begun = true → s.link.routine.frames.length < 8 → s.handNotice n = { s with
      link := (State.tryStart { s with link := { s.link with
        routine := { s.link.routine with frames := s.link.routine.frames ++ [noticeFrame n] } } }).link
      cal := { s.cal with notice := none } }) ∧
    (s.link.begun = false ∨ 8 ≤ s.link.routine.frames.length →
      s.handNotice n = { s with cal := { s.cal with notice := some n } })) ∧
  (∀ s : State, s.live = true →
    let i := Instr.routineQueueDeparture
    (s.cal.notice = none → exec i s = .next (s.took i)) ∧
    (∀ n, s.cal.notice = some n → exec i s = .next ((s.took i).handNotice n))) ∧
  (∀ n : CalNotice, noticeFrame n = ⟨.calNotice,
    [match n.event with | .lock => 1#8 | .erase => 2#8 | .startErase => 3#8,
      match n.lockEngaged, n.unverified with
        | false, false => 0#8 | false, true => 64#8 | true, false => 128#8 | true, true => 192#8] ++
      beBytes 2 n.audit⟩)

/-! ### The whole machine -/

/-- Every step keeps the invariants of every block: no transmit queue exceeds its depth (R152), the visit table holds at
most 96 visits of different numbers and tokens (R93), at most 4 tickets are queued (R133), the travel timer runs in RISING
and FALLING only (R46), Z is 0 while the zero is UNSET (R8) and lies within 20 × Max of it (1.7, R15, R18), and the other
bounds that Safety.lean lists with their rules. -/
def Obligations.EveryStepKeepsTheInvariants : Prop :=
  ∀ s t : State, s.Inv → step s = .next t → t.Inv

/-- The invariants of every block hold after reset. -/
def Obligations.ResetMeetsTheInvariants : Prop := State.reset.Inv

/-- The visit frames say what they carry (R90, R94, R190): the payload of a record in range decodes to that record, with
every field at every value of its range, and so do a visit number and its 3 bytes. That the weight of a record in range
lies between 100 and 80,450 kg is the model's (log 14). Their bytes are those of 11.3, with the absent values of R190. A
number stands in k bytes with its most significant byte first, and is read back from them (R190). -/
def Obligations.VisitPayloadsRoundTrip : Prop :=
  (∀ v : VisitRecord, v.valid = true →
    decodeVisitRecord (visitRecordBytes v) = some v ∧ (visitRecordBytes v).length = 27) ∧
  (∀ n : VisitNumber, n.valid = true →
    decodeVisitNumber (visitNumberBytes n) = some n ∧ (visitNumberBytes n).length = 3) ∧
  (∀ k v : Nat, (beBytes k v).length = k ∧ fromBe (beBytes k v) = v % 256 ^ k ∧
    beBytes (k + 1) v = BitVec.ofNat 8 (v / 256 ^ k) :: beBytes k v) ∧
  (∀ n : VisitNumber, visitNumberBytes n = beBytes 3 (n.opener.val * 1048576 + n.epoch * 4096 + n.sequence)) ∧
  (∀ v : VisitRecord,
    let c := v.claim
    let flag (b : Bool) (weight : Nat) : Nat := if b then weight else 0
    visitRecordBytes v = visitNumberBytes v.number ++ (c.token ++ List.replicate (8 - c.token.length) 0#8) ++
      [BitVec.ofNat 8 (flag (c.kind == .storedTare) 128 + flag c.manual 64), BitVec.ofNat 8 c.category.val] ++
      beBytes 3 c.rate ++ beBytes 3 c.weight ++
      (match c.time with
        | none => List.replicate 5 0xFF#8
        | some time => beBytes 2 time.day ++ beBytes 3 time.second) ++
      (match c.tare with | none => List.replicate 3 0xFF#8 | some tare => beBytes 3 tare))
end

