-- ==== Sys2Proof/Laws/State.lean ====
section
/-! SUPPORT. What each named update of the state leaves in each field: one lemma per field per update. -/

namespace Sys2Proof.Machine

variable (s : State)

/-! ### State.post -/

@[simp] theorem State.post_loader (i : Instr) : (s.post i).loader = s.loader := rfl
@[simp] theorem State.post_cfg (i : Instr) : (s.post i).cfg = s.cfg := rfl
@[simp] theorem State.post_retained (i : Instr) : (s.post i).retained = s.retained := rfl
@[simp] theorem State.post_weigh (i : Instr) : (s.post i).weigh = s.weigh := rfl
@[simp] theorem State.post_deck (i : Instr) : (s.post i).deck = s.deck := rfl
@[simp] theorem State.post_barrierA (i : Instr) : (s.post i).barrierA = s.barrierA := rfl
@[simp] theorem State.post_barrierB (i : Instr) : (s.post i).barrierB = s.barrierB := rfl
@[simp] theorem State.post_flashLit (i : Instr) : (s.post i).flashLit = s.flashLit := rfl
@[simp] theorem State.post_lane (i : Instr) : (s.post i).lane = s.lane := rfl
@[simp] theorem State.post_visits (i : Instr) : (s.post i).visits = s.visits := rfl
@[simp] theorem State.post_store (i : Instr) : (s.post i).store = s.store := rfl
@[simp] theorem State.post_tickets (i : Instr) : (s.post i).tickets = s.tickets := rfl
@[simp] theorem State.post_link (i : Instr) : (s.post i).link = s.link := rfl
@[simp] theorem State.post_peers (i : Instr) : (s.post i).peers = s.peers := rfl
@[simp] theorem State.post_cal (i : Instr) : (s.post i).cal = s.cal := rfl
@[simp] theorem State.post_lines (i : Instr) : (s.post i).lines = s.lines := rfl
@[simp] theorem State.post_answers (i : Instr) : (s.post i).answers = s.answers := rfl
@[simp] theorem State.post_posted (i : Instr) : (s.post i).posted = s.posted ++ [.event i] := rfl
@[simp] theorem State.post_pending (i : Instr) : (s.post i).pending = s.pending := rfl

/-! ### State.took -/

@[simp] theorem State.took_loader (i : Instr) : (s.took i).loader = s.loader := rfl
@[simp] theorem State.took_cfg (i : Instr) : (s.took i).cfg = s.cfg := rfl
@[simp] theorem State.took_retained (i : Instr) : (s.took i).retained = s.retained := rfl
@[simp] theorem State.took_weigh (i : Instr) : (s.took i).weigh = s.weigh := rfl
@[simp] theorem State.took_deck (i : Instr) : (s.took i).deck = s.deck := rfl
@[simp] theorem State.took_barrierA (i : Instr) : (s.took i).barrierA = s.barrierA := rfl
@[simp] theorem State.took_barrierB (i : Instr) : (s.took i).barrierB = s.barrierB := rfl
@[simp] theorem State.took_flashLit (i : Instr) : (s.took i).flashLit = s.flashLit := rfl
@[simp] theorem State.took_lane (i : Instr) : (s.took i).lane = s.lane := rfl
@[simp] theorem State.took_visits (i : Instr) : (s.took i).visits = s.visits := rfl
@[simp] theorem State.took_store (i : Instr) : (s.took i).store = s.store := rfl
@[simp] theorem State.took_tickets (i : Instr) : (s.took i).tickets = s.tickets := rfl
@[simp] theorem State.took_link (i : Instr) : (s.took i).link = s.link := rfl
@[simp] theorem State.took_peers (i : Instr) : (s.took i).peers = s.peers := rfl
@[simp] theorem State.took_cal (i : Instr) : (s.took i).cal = s.cal := rfl
@[simp] theorem State.took_lines (i : Instr) : (s.took i).lines = s.lines := rfl
@[simp] theorem State.took_answers (i : Instr) : (s.took i).answers = s.answers := rfl
@[simp] theorem State.took_posted (i : Instr) : (s.took i).posted = s.posted.erase (.event i) := rfl
@[simp] theorem State.took_pending (i : Instr) : (s.took i).pending = s.pending := rfl

/-! ### State.countMalformed -/

@[simp] theorem State.countMalformed_loader : (s.countMalformed).loader = s.loader := rfl
@[simp] theorem State.countMalformed_cfg : (s.countMalformed).cfg = s.cfg := rfl
@[simp] theorem State.countMalformed_retained : (s.countMalformed).retained = s.retained := rfl
@[simp] theorem State.countMalformed_weigh : (s.countMalformed).weigh = s.weigh := rfl
@[simp] theorem State.countMalformed_deck : (s.countMalformed).deck = s.deck := rfl
@[simp] theorem State.countMalformed_barrierA : (s.countMalformed).barrierA = s.barrierA := rfl
@[simp] theorem State.countMalformed_barrierB : (s.countMalformed).barrierB = s.barrierB := rfl
@[simp] theorem State.countMalformed_flashLit : (s.countMalformed).flashLit = s.flashLit := rfl
@[simp] theorem State.countMalformed_lane : (s.countMalformed).lane = s.lane := rfl
@[simp] theorem State.countMalformed_visits : (s.countMalformed).visits = s.visits := rfl
@[simp] theorem State.countMalformed_store : (s.countMalformed).store = s.store := rfl
@[simp] theorem State.countMalformed_tickets : (s.countMalformed).tickets = s.tickets := rfl
@[simp] theorem State.countMalformed_link : (s.countMalformed).link = { s.link with malformed := satSucc s.link.malformed } := rfl
@[simp] theorem State.countMalformed_peers : (s.countMalformed).peers = s.peers := rfl
@[simp] theorem State.countMalformed_cal : (s.countMalformed).cal = s.cal := rfl
@[simp] theorem State.countMalformed_lines : (s.countMalformed).lines = s.lines := rfl
@[simp] theorem State.countMalformed_answers : (s.countMalformed).answers = s.answers := rfl
@[simp] theorem State.countMalformed_posted : (s.countMalformed).posted = s.posted := rfl
@[simp] theorem State.countMalformed_pending : (s.countMalformed).pending = s.pending := rfl

/-! ### State.emptyWindow -/

@[simp] theorem State.emptyWindow_loader : (s.emptyWindow).loader = s.loader := rfl
@[simp] theorem State.emptyWindow_cfg : (s.emptyWindow).cfg = s.cfg := rfl
@[simp] theorem State.emptyWindow_retained : (s.emptyWindow).retained = s.retained := rfl
@[simp] theorem State.emptyWindow_weigh : (s.emptyWindow).weigh = { s.weigh with window := [] } := rfl
@[simp] theorem State.emptyWindow_deck : (s.emptyWindow).deck = s.deck := rfl
@[simp] theorem State.emptyWindow_barrierA : (s.emptyWindow).barrierA = s.barrierA := rfl
@[simp] theorem State.emptyWindow_barrierB : (s.emptyWindow).barrierB = s.barrierB := rfl
@[simp] theorem State.emptyWindow_flashLit : (s.emptyWindow).flashLit = s.flashLit := rfl
@[simp] theorem State.emptyWindow_lane : (s.emptyWindow).lane = s.lane := rfl
@[simp] theorem State.emptyWindow_visits : (s.emptyWindow).visits = s.visits := rfl
@[simp] theorem State.emptyWindow_store : (s.emptyWindow).store = s.store := rfl
@[simp] theorem State.emptyWindow_tickets : (s.emptyWindow).tickets = s.tickets := rfl
@[simp] theorem State.emptyWindow_link : (s.emptyWindow).link = s.link := rfl
@[simp] theorem State.emptyWindow_peers : (s.emptyWindow).peers = s.peers := rfl
@[simp] theorem State.emptyWindow_cal : (s.emptyWindow).cal = s.cal := rfl
@[simp] theorem State.emptyWindow_lines : (s.emptyWindow).lines = s.lines := rfl
@[simp] theorem State.emptyWindow_answers : (s.emptyWindow).answers = s.answers := rfl
@[simp] theorem State.emptyWindow_posted : (s.emptyWindow).posted = s.posted := rfl
@[simp] theorem State.emptyWindow_pending : (s.emptyWindow).pending = s.pending := rfl

/-! ### State.openCapture -/

@[simp] theorem State.openCapture_loader : (s.openCapture).loader = s.loader := rfl
@[simp] theorem State.openCapture_cfg : (s.openCapture).cfg = s.cfg := rfl
@[simp] theorem State.openCapture_retained : (s.openCapture).retained = s.retained := rfl
@[simp] theorem State.openCapture_weigh : (s.openCapture).weigh = { s.weigh with captureRequest := true, window := [] } := rfl
@[simp] theorem State.openCapture_deck : (s.openCapture).deck = s.deck := rfl
@[simp] theorem State.openCapture_barrierA : (s.openCapture).barrierA = s.barrierA := rfl
@[simp] theorem State.openCapture_barrierB : (s.openCapture).barrierB = s.barrierB := rfl
@[simp] theorem State.openCapture_flashLit : (s.openCapture).flashLit = s.flashLit := rfl
@[simp] theorem State.openCapture_lane : (s.openCapture).lane = s.lane := rfl
@[simp] theorem State.openCapture_visits : (s.openCapture).visits = s.visits := rfl
@[simp] theorem State.openCapture_store : (s.openCapture).store = s.store := rfl
@[simp] theorem State.openCapture_tickets : (s.openCapture).tickets = s.tickets := rfl
@[simp] theorem State.openCapture_link : (s.openCapture).link = s.link := rfl
@[simp] theorem State.openCapture_peers : (s.openCapture).peers = s.peers := rfl
@[simp] theorem State.openCapture_cal : (s.openCapture).cal = s.cal := rfl
@[simp] theorem State.openCapture_lines : (s.openCapture).lines = s.lines := rfl
@[simp] theorem State.openCapture_answers : (s.openCapture).answers = s.answers := rfl
@[simp] theorem State.openCapture_posted : (s.openCapture).posted = s.posted := rfl
@[simp] theorem State.openCapture_pending : (s.openCapture).pending = s.pending := rfl

/-! ### State.closeCapture -/

@[simp] theorem State.closeCapture_loader : (s.closeCapture).loader = s.loader := rfl
@[simp] theorem State.closeCapture_cfg : (s.closeCapture).cfg = s.cfg := rfl
@[simp] theorem State.closeCapture_retained : (s.closeCapture).retained = s.retained := rfl
@[simp] theorem State.closeCapture_weigh : (s.closeCapture).weigh = { s.weigh with captureRequest := false } := rfl
@[simp] theorem State.closeCapture_deck : (s.closeCapture).deck = s.deck := rfl
@[simp] theorem State.closeCapture_barrierA : (s.closeCapture).barrierA = s.barrierA := rfl
@[simp] theorem State.closeCapture_barrierB : (s.closeCapture).barrierB = s.barrierB := rfl
@[simp] theorem State.closeCapture_flashLit : (s.closeCapture).flashLit = s.flashLit := rfl
@[simp] theorem State.closeCapture_lane : (s.closeCapture).lane = s.lane := rfl
@[simp] theorem State.closeCapture_visits : (s.closeCapture).visits = s.visits := rfl
@[simp] theorem State.closeCapture_store : (s.closeCapture).store = s.store := rfl
@[simp] theorem State.closeCapture_tickets : (s.closeCapture).tickets = s.tickets := rfl
@[simp] theorem State.closeCapture_link : (s.closeCapture).link = s.link := rfl
@[simp] theorem State.closeCapture_peers : (s.closeCapture).peers = s.peers := rfl
@[simp] theorem State.closeCapture_cal : (s.closeCapture).cal = s.cal := rfl
@[simp] theorem State.closeCapture_lines : (s.closeCapture).lines = s.lines := rfl
@[simp] theorem State.closeCapture_answers : (s.closeCapture).answers = s.answers := rfl
@[simp] theorem State.closeCapture_posted : (s.closeCapture).posted = s.posted := rfl
@[simp] theorem State.closeCapture_pending : (s.closeCapture).pending = s.pending := rfl

/-! ### State.askCommit -/

@[simp] theorem State.askCommit_loader (c : Commit) : (s.askCommit c).loader = s.loader := rfl
@[simp] theorem State.askCommit_cfg (c : Commit) : (s.askCommit c).cfg = s.cfg := rfl
@[simp] theorem State.askCommit_retained (c : Commit) : (s.askCommit c).retained = { s.retained with commits := s.retained.commits ++ [c] } := rfl
@[simp] theorem State.askCommit_weigh (c : Commit) : (s.askCommit c).weigh = s.weigh := rfl
@[simp] theorem State.askCommit_deck (c : Commit) : (s.askCommit c).deck = s.deck := rfl
@[simp] theorem State.askCommit_barrierA (c : Commit) : (s.askCommit c).barrierA = s.barrierA := rfl
@[simp] theorem State.askCommit_barrierB (c : Commit) : (s.askCommit c).barrierB = s.barrierB := rfl
@[simp] theorem State.askCommit_flashLit (c : Commit) : (s.askCommit c).flashLit = s.flashLit := rfl
@[simp] theorem State.askCommit_lane (c : Commit) : (s.askCommit c).lane = s.lane := rfl
@[simp] theorem State.askCommit_visits (c : Commit) : (s.askCommit c).visits = s.visits := rfl
@[simp] theorem State.askCommit_store (c : Commit) : (s.askCommit c).store = s.store := rfl
@[simp] theorem State.askCommit_tickets (c : Commit) : (s.askCommit c).tickets = s.tickets := rfl
@[simp] theorem State.askCommit_link (c : Commit) : (s.askCommit c).link = s.link := rfl
@[simp] theorem State.askCommit_peers (c : Commit) : (s.askCommit c).peers = s.peers := rfl
@[simp] theorem State.askCommit_cal (c : Commit) : (s.askCommit c).cal = s.cal := rfl
@[simp] theorem State.askCommit_lines (c : Commit) : (s.askCommit c).lines = s.lines := rfl
@[simp] theorem State.askCommit_answers (c : Commit) : (s.askCommit c).answers = s.answers := rfl
@[simp] theorem State.askCommit_posted (c : Commit) : (s.askCommit c).posted = s.posted := rfl
@[simp] theorem State.askCommit_pending (c : Commit) : (s.askCommit c).pending = s.pending := rfl

/-! ### State.answer -/

@[simp] theorem State.answer_loader (code : ServiceCode) (content : List Byte) : (s.answer code content).loader = s.loader := rfl
@[simp] theorem State.answer_cfg (code : ServiceCode) (content : List Byte) : (s.answer code content).cfg = s.cfg := rfl
@[simp] theorem State.answer_retained (code : ServiceCode) (content : List Byte) : (s.answer code content).retained = s.retained := rfl
@[simp] theorem State.answer_weigh (code : ServiceCode) (content : List Byte) : (s.answer code content).weigh = s.weigh := rfl
@[simp] theorem State.answer_deck (code : ServiceCode) (content : List Byte) : (s.answer code content).deck = s.deck := rfl
@[simp] theorem State.answer_barrierA (code : ServiceCode) (content : List Byte) : (s.answer code content).barrierA = s.barrierA := rfl
@[simp] theorem State.answer_barrierB (code : ServiceCode) (content : List Byte) : (s.answer code content).barrierB = s.barrierB := rfl
@[simp] theorem State.answer_flashLit (code : ServiceCode) (content : List Byte) : (s.answer code content).flashLit = s.flashLit := rfl
@[simp] theorem State.answer_lane (code : ServiceCode) (content : List Byte) : (s.answer code content).lane = s.lane := rfl
@[simp] theorem State.answer_visits (code : ServiceCode) (content : List Byte) : (s.answer code content).visits = s.visits := rfl
@[simp] theorem State.answer_store (code : ServiceCode) (content : List Byte) : (s.answer code content).store = s.store := rfl
@[simp] theorem State.answer_tickets (code : ServiceCode) (content : List Byte) : (s.answer code content).tickets = s.tickets := rfl
@[simp] theorem State.answer_link (code : ServiceCode) (content : List Byte) : (s.answer code content).link = s.link := rfl
@[simp] theorem State.answer_peers (code : ServiceCode) (content : List Byte) : (s.answer code content).peers = s.peers := rfl
@[simp] theorem State.answer_cal (code : ServiceCode) (content : List Byte) : (s.answer code content).cal = s.cal := rfl
@[simp] theorem State.answer_lines (code : ServiceCode) (content : List Byte) : (s.answer code content).lines = { s.lines with service := some { code, content } } := rfl
@[simp] theorem State.answer_answers (code : ServiceCode) (content : List Byte) : (s.answer code content).answers = s.answers := rfl
@[simp] theorem State.answer_posted (code : ServiceCode) (content : List Byte) : (s.answer code content).posted = s.posted := rfl
@[simp] theorem State.answer_pending (code : ServiceCode) (content : List Byte) : (s.answer code content).pending = s.pending := rfl

/-! ### State.sendPrinter -/

@[simp] theorem State.sendPrinter_loader (m : PrinterMessage) : (s.sendPrinter m).loader = s.loader := rfl
@[simp] theorem State.sendPrinter_cfg (m : PrinterMessage) : (s.sendPrinter m).cfg = s.cfg := rfl
@[simp] theorem State.sendPrinter_retained (m : PrinterMessage) : (s.sendPrinter m).retained = s.retained := rfl
@[simp] theorem State.sendPrinter_weigh (m : PrinterMessage) : (s.sendPrinter m).weigh = s.weigh := rfl
@[simp] theorem State.sendPrinter_deck (m : PrinterMessage) : (s.sendPrinter m).deck = s.deck := rfl
@[simp] theorem State.sendPrinter_barrierA (m : PrinterMessage) : (s.sendPrinter m).barrierA = s.barrierA := rfl
@[simp] theorem State.sendPrinter_barrierB (m : PrinterMessage) : (s.sendPrinter m).barrierB = s.barrierB := rfl
@[simp] theorem State.sendPrinter_flashLit (m : PrinterMessage) : (s.sendPrinter m).flashLit = s.flashLit := rfl
@[simp] theorem State.sendPrinter_lane (m : PrinterMessage) : (s.sendPrinter m).lane = s.lane := rfl
@[simp] theorem State.sendPrinter_visits (m : PrinterMessage) : (s.sendPrinter m).visits = s.visits := rfl
@[simp] theorem State.sendPrinter_store (m : PrinterMessage) : (s.sendPrinter m).store = s.store := rfl
@[simp] theorem State.sendPrinter_tickets (m : PrinterMessage) : (s.sendPrinter m).tickets = s.tickets := rfl
@[simp] theorem State.sendPrinter_link (m : PrinterMessage) : (s.sendPrinter m).link = s.link := rfl
@[simp] theorem State.sendPrinter_peers (m : PrinterMessage) : (s.sendPrinter m).peers = s.peers := rfl
@[simp] theorem State.sendPrinter_cal (m : PrinterMessage) : (s.sendPrinter m).cal = s.cal := rfl
@[simp] theorem State.sendPrinter_lines (m : PrinterMessage) : (s.sendPrinter m).lines = { s.lines with printer := some m } := rfl
@[simp] theorem State.sendPrinter_answers (m : PrinterMessage) : (s.sendPrinter m).answers = s.answers := rfl
@[simp] theorem State.sendPrinter_posted (m : PrinterMessage) : (s.sendPrinter m).posted = s.posted := rfl
@[simp] theorem State.sendPrinter_pending (m : PrinterMessage) : (s.sendPrinter m).pending = s.pending := rfl

/-! ### State.withRecord -/

@[simp] theorem State.withRecord_loader (r : TxnRecord) : (s.withRecord r).loader = s.loader := rfl
@[simp] theorem State.withRecord_cfg (r : TxnRecord) : (s.withRecord r).cfg = s.cfg := rfl
@[simp] theorem State.withRecord_retained (r : TxnRecord) : (s.withRecord r).retained = s.retained := rfl
@[simp] theorem State.withRecord_weigh (r : TxnRecord) : (s.withRecord r).weigh = s.weigh := rfl
@[simp] theorem State.withRecord_deck (r : TxnRecord) : (s.withRecord r).deck = s.deck := rfl
@[simp] theorem State.withRecord_barrierA (r : TxnRecord) : (s.withRecord r).barrierA = s.barrierA := rfl
@[simp] theorem State.withRecord_barrierB (r : TxnRecord) : (s.withRecord r).barrierB = s.barrierB := rfl
@[simp] theorem State.withRecord_flashLit (r : TxnRecord) : (s.withRecord r).flashLit = s.flashLit := rfl
@[simp] theorem State.withRecord_lane (r : TxnRecord) : (s.withRecord r).lane = { s.lane with record := r } := rfl
@[simp] theorem State.withRecord_visits (r : TxnRecord) : (s.withRecord r).visits = s.visits := rfl
@[simp] theorem State.withRecord_store (r : TxnRecord) : (s.withRecord r).store = s.store := rfl
@[simp] theorem State.withRecord_tickets (r : TxnRecord) : (s.withRecord r).tickets = s.tickets := rfl
@[simp] theorem State.withRecord_link (r : TxnRecord) : (s.withRecord r).link = s.link := rfl
@[simp] theorem State.withRecord_peers (r : TxnRecord) : (s.withRecord r).peers = s.peers := rfl
@[simp] theorem State.withRecord_cal (r : TxnRecord) : (s.withRecord r).cal = s.cal := rfl
@[simp] theorem State.withRecord_lines (r : TxnRecord) : (s.withRecord r).lines = s.lines := rfl
@[simp] theorem State.withRecord_answers (r : TxnRecord) : (s.withRecord r).answers = s.answers := rfl
@[simp] theorem State.withRecord_posted (r : TxnRecord) : (s.withRecord r).posted = s.posted := rfl
@[simp] theorem State.withRecord_pending (r : TxnRecord) : (s.withRecord r).pending = s.pending := rfl

/-! ### State.showSign -/

@[simp] theorem State.showSign_loader (code : Sign) : (s.showSign code).loader = s.loader := rfl
@[simp] theorem State.showSign_cfg (code : Sign) : (s.showSign code).cfg = s.cfg := rfl
@[simp] theorem State.showSign_retained (code : Sign) : (s.showSign code).retained = s.retained := rfl
@[simp] theorem State.showSign_weigh (code : Sign) : (s.showSign code).weigh = s.weigh := rfl
@[simp] theorem State.showSign_deck (code : Sign) : (s.showSign code).deck = s.deck := rfl
@[simp] theorem State.showSign_barrierA (code : Sign) : (s.showSign code).barrierA = s.barrierA := rfl
@[simp] theorem State.showSign_barrierB (code : Sign) : (s.showSign code).barrierB = s.barrierB := rfl
@[simp] theorem State.showSign_flashLit (code : Sign) : (s.showSign code).flashLit = s.flashLit := rfl
@[simp] theorem State.showSign_lane (code : Sign) : (s.showSign code).lane = { s.lane with sign := code } := rfl
@[simp] theorem State.showSign_visits (code : Sign) : (s.showSign code).visits = s.visits := rfl
@[simp] theorem State.showSign_store (code : Sign) : (s.showSign code).store = s.store := rfl
@[simp] theorem State.showSign_tickets (code : Sign) : (s.showSign code).tickets = s.tickets := rfl
@[simp] theorem State.showSign_link (code : Sign) : (s.showSign code).link = s.link := rfl
@[simp] theorem State.showSign_peers (code : Sign) : (s.showSign code).peers = s.peers := rfl
@[simp] theorem State.showSign_cal (code : Sign) : (s.showSign code).cal = s.cal := rfl
@[simp] theorem State.showSign_lines (code : Sign) : (s.showSign code).lines = s.lines := rfl
@[simp] theorem State.showSign_answers (code : Sign) : (s.showSign code).answers = s.answers := rfl
@[simp] theorem State.showSign_posted (code : Sign) : (s.showSign code).posted = s.posted := rfl
@[simp] theorem State.showSign_pending (code : Sign) : (s.showSign code).pending = s.pending := rfl

/-! ### State.withProgress -/

@[simp] theorem State.withProgress_loader (p : Progress) : (s.withProgress p).loader = s.loader := rfl
@[simp] theorem State.withProgress_cfg (p : Progress) : (s.withProgress p).cfg = s.cfg := rfl
@[simp] theorem State.withProgress_retained (p : Progress) : (s.withProgress p).retained = s.retained := rfl
@[simp] theorem State.withProgress_weigh (p : Progress) : (s.withProgress p).weigh = s.weigh := rfl
@[simp] theorem State.withProgress_deck (p : Progress) : (s.withProgress p).deck = s.deck := rfl
@[simp] theorem State.withProgress_barrierA (p : Progress) : (s.withProgress p).barrierA = s.barrierA := rfl
@[simp] theorem State.withProgress_barrierB (p : Progress) : (s.withProgress p).barrierB = s.barrierB := rfl
@[simp] theorem State.withProgress_flashLit (p : Progress) : (s.withProgress p).flashLit = s.flashLit := rfl
@[simp] theorem State.withProgress_lane (p : Progress) : (s.withProgress p).lane = { s.lane with record := { s.lane.record with progress := p } } := rfl
@[simp] theorem State.withProgress_visits (p : Progress) : (s.withProgress p).visits = s.visits := rfl
@[simp] theorem State.withProgress_store (p : Progress) : (s.withProgress p).store = s.store := rfl
@[simp] theorem State.withProgress_tickets (p : Progress) : (s.withProgress p).tickets = s.tickets := rfl
@[simp] theorem State.withProgress_link (p : Progress) : (s.withProgress p).link = s.link := rfl
@[simp] theorem State.withProgress_peers (p : Progress) : (s.withProgress p).peers = s.peers := rfl
@[simp] theorem State.withProgress_cal (p : Progress) : (s.withProgress p).cal = s.cal := rfl
@[simp] theorem State.withProgress_lines (p : Progress) : (s.withProgress p).lines = s.lines := rfl
@[simp] theorem State.withProgress_answers (p : Progress) : (s.withProgress p).answers = s.answers := rfl
@[simp] theorem State.withProgress_posted (p : Progress) : (s.withProgress p).posted = s.posted := rfl
@[simp] theorem State.withProgress_pending (p : Progress) : (s.withProgress p).pending = s.pending := rfl

/-! ### State.stopLaneTimers -/

@[simp] theorem State.stopLaneTimers_loader : (s.stopLaneTimers).loader = s.loader := rfl
@[simp] theorem State.stopLaneTimers_cfg : (s.stopLaneTimers).cfg = s.cfg := rfl
@[simp] theorem State.stopLaneTimers_retained : (s.stopLaneTimers).retained = s.retained := rfl
@[simp] theorem State.stopLaneTimers_weigh : (s.stopLaneTimers).weigh = s.weigh := rfl
@[simp] theorem State.stopLaneTimers_deck : (s.stopLaneTimers).deck = s.deck := rfl
@[simp] theorem State.stopLaneTimers_barrierA : (s.stopLaneTimers).barrierA = s.barrierA := rfl
@[simp] theorem State.stopLaneTimers_barrierB : (s.stopLaneTimers).barrierB = s.barrierB := rfl
@[simp] theorem State.stopLaneTimers_flashLit : (s.stopLaneTimers).flashLit = s.flashLit := rfl
@[simp] theorem State.stopLaneTimers_lane : (s.stopLaneTimers).lane = { s.lane with idWait := none, stabilityLimit := none, clearDeckLimit := none } := rfl
@[simp] theorem State.stopLaneTimers_visits : (s.stopLaneTimers).visits = s.visits := rfl
@[simp] theorem State.stopLaneTimers_store : (s.stopLaneTimers).store = s.store := rfl
@[simp] theorem State.stopLaneTimers_tickets : (s.stopLaneTimers).tickets = s.tickets := rfl
@[simp] theorem State.stopLaneTimers_link : (s.stopLaneTimers).link = s.link := rfl
@[simp] theorem State.stopLaneTimers_peers : (s.stopLaneTimers).peers = s.peers := rfl
@[simp] theorem State.stopLaneTimers_cal : (s.stopLaneTimers).cal = s.cal := rfl
@[simp] theorem State.stopLaneTimers_lines : (s.stopLaneTimers).lines = s.lines := rfl
@[simp] theorem State.stopLaneTimers_answers : (s.stopLaneTimers).answers = s.answers := rfl
@[simp] theorem State.stopLaneTimers_posted : (s.stopLaneTimers).posted = s.posted := rfl
@[simp] theorem State.stopLaneTimers_pending : (s.stopLaneTimers).pending = s.pending := rfl

/-! ### State.recordCommand -/

@[simp] theorem State.recordCommand_loader (c : OfficeCommand) (r : CommandResult) : (s.recordCommand c r).loader = s.loader := rfl
@[simp] theorem State.recordCommand_cfg (c : OfficeCommand) (r : CommandResult) : (s.recordCommand c r).cfg = s.cfg := rfl
@[simp] theorem State.recordCommand_retained (c : OfficeCommand) (r : CommandResult) : (s.recordCommand c r).retained = s.retained := rfl
@[simp] theorem State.recordCommand_weigh (c : OfficeCommand) (r : CommandResult) : (s.recordCommand c r).weigh = s.weigh := rfl
@[simp] theorem State.recordCommand_deck (c : OfficeCommand) (r : CommandResult) : (s.recordCommand c r).deck = s.deck := rfl
@[simp] theorem State.recordCommand_barrierA (c : OfficeCommand) (r : CommandResult) : (s.recordCommand c r).barrierA = s.barrierA := rfl
@[simp] theorem State.recordCommand_barrierB (c : OfficeCommand) (r : CommandResult) : (s.recordCommand c r).barrierB = s.barrierB := rfl
@[simp] theorem State.recordCommand_flashLit (c : OfficeCommand) (r : CommandResult) : (s.recordCommand c r).flashLit = s.flashLit := rfl
@[simp] theorem State.recordCommand_lane (c : OfficeCommand) (r : CommandResult) : (s.recordCommand c r).lane = { s.lane with lastCommand := some ⟨c, r⟩ } := rfl
@[simp] theorem State.recordCommand_visits (c : OfficeCommand) (r : CommandResult) : (s.recordCommand c r).visits = s.visits := rfl
@[simp] theorem State.recordCommand_store (c : OfficeCommand) (r : CommandResult) : (s.recordCommand c r).store = s.store := rfl
@[simp] theorem State.recordCommand_tickets (c : OfficeCommand) (r : CommandResult) : (s.recordCommand c r).tickets = s.tickets := rfl
@[simp] theorem State.recordCommand_link (c : OfficeCommand) (r : CommandResult) : (s.recordCommand c r).link = s.link := rfl
@[simp] theorem State.recordCommand_peers (c : OfficeCommand) (r : CommandResult) : (s.recordCommand c r).peers = s.peers := rfl
@[simp] theorem State.recordCommand_cal (c : OfficeCommand) (r : CommandResult) : (s.recordCommand c r).cal = s.cal := rfl
@[simp] theorem State.recordCommand_lines (c : OfficeCommand) (r : CommandResult) : (s.recordCommand c r).lines = s.lines := rfl
@[simp] theorem State.recordCommand_answers (c : OfficeCommand) (r : CommandResult) : (s.recordCommand c r).answers = s.answers := rfl
@[simp] theorem State.recordCommand_posted (c : OfficeCommand) (r : CommandResult) : (s.recordCommand c r).posted = s.posted := rfl
@[simp] theorem State.recordCommand_pending (c : OfficeCommand) (r : CommandResult) : (s.recordCommand c r).pending = s.pending := rfl

/-! ### State.countOrphan -/

@[simp] theorem State.countOrphan_loader : (s.countOrphan).loader = s.loader := rfl
@[simp] theorem State.countOrphan_cfg : (s.countOrphan).cfg = s.cfg := rfl
@[simp] theorem State.countOrphan_retained : (s.countOrphan).retained = s.retained := rfl
@[simp] theorem State.countOrphan_weigh : (s.countOrphan).weigh = s.weigh := rfl
@[simp] theorem State.countOrphan_deck : (s.countOrphan).deck = s.deck := rfl
@[simp] theorem State.countOrphan_barrierA : (s.countOrphan).barrierA = s.barrierA := rfl
@[simp] theorem State.countOrphan_barrierB : (s.countOrphan).barrierB = s.barrierB := rfl
@[simp] theorem State.countOrphan_flashLit : (s.countOrphan).flashLit = s.flashLit := rfl
@[simp] theorem State.countOrphan_lane : (s.countOrphan).lane = { s.lane with orphans := satSucc s.lane.orphans } := rfl
@[simp] theorem State.countOrphan_visits : (s.countOrphan).visits = s.visits := rfl
@[simp] theorem State.countOrphan_store : (s.countOrphan).store = s.store := rfl
@[simp] theorem State.countOrphan_tickets : (s.countOrphan).tickets = s.tickets := rfl
@[simp] theorem State.countOrphan_link : (s.countOrphan).link = s.link := rfl
@[simp] theorem State.countOrphan_peers : (s.countOrphan).peers = s.peers := rfl
@[simp] theorem State.countOrphan_cal : (s.countOrphan).cal = s.cal := rfl
@[simp] theorem State.countOrphan_lines : (s.countOrphan).lines = s.lines := rfl
@[simp] theorem State.countOrphan_answers : (s.countOrphan).answers = s.answers := rfl
@[simp] theorem State.countOrphan_posted : (s.countOrphan).posted = s.posted := rfl
@[simp] theorem State.countOrphan_pending : (s.countOrphan).pending = s.pending := rfl

/-! ### State.startAnswerLimit -/

@[simp] theorem State.startAnswerLimit_loader : (s.startAnswerLimit).loader = s.loader := rfl
@[simp] theorem State.startAnswerLimit_cfg : (s.startAnswerLimit).cfg = s.cfg := rfl
@[simp] theorem State.startAnswerLimit_retained : (s.startAnswerLimit).retained = s.retained := rfl
@[simp] theorem State.startAnswerLimit_weigh : (s.startAnswerLimit).weigh = s.weigh := rfl
@[simp] theorem State.startAnswerLimit_deck : (s.startAnswerLimit).deck = s.deck := rfl
@[simp] theorem State.startAnswerLimit_barrierA : (s.startAnswerLimit).barrierA = s.barrierA := rfl
@[simp] theorem State.startAnswerLimit_barrierB : (s.startAnswerLimit).barrierB = s.barrierB := rfl
@[simp] theorem State.startAnswerLimit_flashLit : (s.startAnswerLimit).flashLit = s.flashLit := rfl
@[simp] theorem State.startAnswerLimit_lane : (s.startAnswerLimit).lane = s.lane := rfl
@[simp] theorem State.startAnswerLimit_visits : (s.startAnswerLimit).visits = s.visits := rfl
@[simp] theorem State.startAnswerLimit_store : (s.startAnswerLimit).store = s.store := rfl
@[simp] theorem State.startAnswerLimit_tickets : (s.startAnswerLimit).tickets = { s.tickets with answerLimit := some s.cfg.printerLimit } := rfl
@[simp] theorem State.startAnswerLimit_link : (s.startAnswerLimit).link = s.link := rfl
@[simp] theorem State.startAnswerLimit_peers : (s.startAnswerLimit).peers = s.peers := rfl
@[simp] theorem State.startAnswerLimit_cal : (s.startAnswerLimit).cal = s.cal := rfl
@[simp] theorem State.startAnswerLimit_lines : (s.startAnswerLimit).lines = s.lines := rfl
@[simp] theorem State.startAnswerLimit_answers : (s.startAnswerLimit).answers = s.answers := rfl
@[simp] theorem State.startAnswerLimit_posted : (s.startAnswerLimit).posted = s.posted := rfl
@[simp] theorem State.startAnswerLimit_pending : (s.startAnswerLimit).pending = s.pending := rfl

/-! ### State.stopAnswerLimit -/

@[simp] theorem State.stopAnswerLimit_loader : (s.stopAnswerLimit).loader = s.loader := rfl
@[simp] theorem State.stopAnswerLimit_cfg : (s.stopAnswerLimit).cfg = s.cfg := rfl
@[simp] theorem State.stopAnswerLimit_retained : (s.stopAnswerLimit).retained = s.retained := rfl
@[simp] theorem State.stopAnswerLimit_weigh : (s.stopAnswerLimit).weigh = s.weigh := rfl
@[simp] theorem State.stopAnswerLimit_deck : (s.stopAnswerLimit).deck = s.deck := rfl
@[simp] theorem State.stopAnswerLimit_barrierA : (s.stopAnswerLimit).barrierA = s.barrierA := rfl
@[simp] theorem State.stopAnswerLimit_barrierB : (s.stopAnswerLimit).barrierB = s.barrierB := rfl
@[simp] theorem State.stopAnswerLimit_flashLit : (s.stopAnswerLimit).flashLit = s.flashLit := rfl
@[simp] theorem State.stopAnswerLimit_lane : (s.stopAnswerLimit).lane = s.lane := rfl
@[simp] theorem State.stopAnswerLimit_visits : (s.stopAnswerLimit).visits = s.visits := rfl
@[simp] theorem State.stopAnswerLimit_store : (s.stopAnswerLimit).store = s.store := rfl
@[simp] theorem State.stopAnswerLimit_tickets : (s.stopAnswerLimit).tickets = { s.tickets with answerLimit := none } := rfl
@[simp] theorem State.stopAnswerLimit_link : (s.stopAnswerLimit).link = s.link := rfl
@[simp] theorem State.stopAnswerLimit_peers : (s.stopAnswerLimit).peers = s.peers := rfl
@[simp] theorem State.stopAnswerLimit_cal : (s.stopAnswerLimit).cal = s.cal := rfl
@[simp] theorem State.stopAnswerLimit_lines : (s.stopAnswerLimit).lines = s.lines := rfl
@[simp] theorem State.stopAnswerLimit_answers : (s.stopAnswerLimit).answers = s.answers := rfl
@[simp] theorem State.stopAnswerLimit_posted : (s.stopAnswerLimit).posted = s.posted := rfl
@[simp] theorem State.stopAnswerLimit_pending : (s.stopAnswerLimit).pending = s.pending := rfl

/-! ### State.keepLookup -/

@[simp] theorem State.keepLookup_loader (v : Option VisitRecord) : (s.keepLookup v).loader = s.loader := rfl
@[simp] theorem State.keepLookup_cfg (v : Option VisitRecord) : (s.keepLookup v).cfg = s.cfg := rfl
@[simp] theorem State.keepLookup_retained (v : Option VisitRecord) : (s.keepLookup v).retained = s.retained := rfl
@[simp] theorem State.keepLookup_weigh (v : Option VisitRecord) : (s.keepLookup v).weigh = s.weigh := rfl
@[simp] theorem State.keepLookup_deck (v : Option VisitRecord) : (s.keepLookup v).deck = s.deck := rfl
@[simp] theorem State.keepLookup_barrierA (v : Option VisitRecord) : (s.keepLookup v).barrierA = s.barrierA := rfl
@[simp] theorem State.keepLookup_barrierB (v : Option VisitRecord) : (s.keepLookup v).barrierB = s.barrierB := rfl
@[simp] theorem State.keepLookup_flashLit (v : Option VisitRecord) : (s.keepLookup v).flashLit = s.flashLit := rfl
@[simp] theorem State.keepLookup_lane (v : Option VisitRecord) : (s.keepLookup v).lane = s.lane := rfl
@[simp] theorem State.keepLookup_visits (v : Option VisitRecord) : (s.keepLookup v).visits = s.visits := rfl
@[simp] theorem State.keepLookup_store (v : Option VisitRecord) : (s.keepLookup v).store = s.store := rfl
@[simp] theorem State.keepLookup_tickets (v : Option VisitRecord) : (s.keepLookup v).tickets = s.tickets := rfl
@[simp] theorem State.keepLookup_link (v : Option VisitRecord) : (s.keepLookup v).link = s.link := rfl
@[simp] theorem State.keepLookup_peers (v : Option VisitRecord) : (s.keepLookup v).peers = s.peers := rfl
@[simp] theorem State.keepLookup_cal (v : Option VisitRecord) : (s.keepLookup v).cal = s.cal := rfl
@[simp] theorem State.keepLookup_lines (v : Option VisitRecord) : (s.keepLookup v).lines = s.lines := rfl
@[simp] theorem State.keepLookup_answers (v : Option VisitRecord) : (s.keepLookup v).answers = { s.answers with lookup := some v } := rfl
@[simp] theorem State.keepLookup_posted (v : Option VisitRecord) : (s.keepLookup v).posted = s.posted := rfl
@[simp] theorem State.keepLookup_pending (v : Option VisitRecord) : (s.keepLookup v).pending = s.pending := rfl

/-! ### State.askClosed -/

@[simp] theorem State.askClosed_loader (c : Category) : (s.askClosed c).loader = s.loader := rfl
@[simp] theorem State.askClosed_cfg (c : Category) : (s.askClosed c).cfg = s.cfg := rfl
@[simp] theorem State.askClosed_retained (c : Category) : (s.askClosed c).retained = s.retained := rfl
@[simp] theorem State.askClosed_weigh (c : Category) : (s.askClosed c).weigh = s.weigh := rfl
@[simp] theorem State.askClosed_deck (c : Category) : (s.askClosed c).deck = s.deck := rfl
@[simp] theorem State.askClosed_barrierA (c : Category) : (s.askClosed c).barrierA = s.barrierA := rfl
@[simp] theorem State.askClosed_barrierB (c : Category) : (s.askClosed c).barrierB = s.barrierB := rfl
@[simp] theorem State.askClosed_flashLit (c : Category) : (s.askClosed c).flashLit = s.flashLit := rfl
@[simp] theorem State.askClosed_lane (c : Category) : (s.askClosed c).lane = s.lane := rfl
@[simp] theorem State.askClosed_visits (c : Category) : (s.askClosed c).visits = s.visits := rfl
@[simp] theorem State.askClosed_store (c : Category) : (s.askClosed c).store = s.store := rfl
@[simp] theorem State.askClosed_tickets (c : Category) : (s.askClosed c).tickets = s.tickets := rfl
@[simp] theorem State.askClosed_link (c : Category) : (s.askClosed c).link = s.link := rfl
@[simp] theorem State.askClosed_peers (c : Category) : (s.askClosed c).peers = s.peers := rfl
@[simp] theorem State.askClosed_cal (c : Category) : (s.askClosed c).cal = s.cal := rfl
@[simp] theorem State.askClosed_lines (c : Category) : (s.askClosed c).lines = s.lines := rfl
@[simp] theorem State.askClosed_answers (c : Category) : (s.askClosed c).answers = { s.answers with closed := some (s.isClosed c) } := rfl
@[simp] theorem State.askClosed_posted (c : Category) : (s.askClosed c).posted = s.posted := rfl
@[simp] theorem State.askClosed_pending (c : Category) : (s.askClosed c).pending = s.pending := rfl

/-! ### State.answerHold -/

@[simp] theorem State.answerHold_loader (b : Bool) : (s.answerHold b).loader = s.loader := rfl
@[simp] theorem State.answerHold_cfg (b : Bool) : (s.answerHold b).cfg = s.cfg := rfl
@[simp] theorem State.answerHold_retained (b : Bool) : (s.answerHold b).retained = s.retained := rfl
@[simp] theorem State.answerHold_weigh (b : Bool) : (s.answerHold b).weigh = s.weigh := rfl
@[simp] theorem State.answerHold_deck (b : Bool) : (s.answerHold b).deck = s.deck := rfl
@[simp] theorem State.answerHold_barrierA (b : Bool) : (s.answerHold b).barrierA = s.barrierA := rfl
@[simp] theorem State.answerHold_barrierB (b : Bool) : (s.answerHold b).barrierB = s.barrierB := rfl
@[simp] theorem State.answerHold_flashLit (b : Bool) : (s.answerHold b).flashLit = s.flashLit := rfl
@[simp] theorem State.answerHold_lane (b : Bool) : (s.answerHold b).lane = s.lane := rfl
@[simp] theorem State.answerHold_visits (b : Bool) : (s.answerHold b).visits = s.visits := rfl
@[simp] theorem State.answerHold_store (b : Bool) : (s.answerHold b).store = s.store := rfl
@[simp] theorem State.answerHold_tickets (b : Bool) : (s.answerHold b).tickets = s.tickets := rfl
@[simp] theorem State.answerHold_link (b : Bool) : (s.answerHold b).link = s.link := rfl
@[simp] theorem State.answerHold_peers (b : Bool) : (s.answerHold b).peers = s.peers := rfl
@[simp] theorem State.answerHold_cal (b : Bool) : (s.answerHold b).cal = s.cal := rfl
@[simp] theorem State.answerHold_lines (b : Bool) : (s.answerHold b).lines = s.lines := rfl
@[simp] theorem State.answerHold_answers (b : Bool) : (s.answerHold b).answers = { s.answers with hold := some b } := rfl
@[simp] theorem State.answerHold_posted (b : Bool) : (s.answerHold b).posted = s.posted := rfl
@[simp] theorem State.answerHold_pending (b : Bool) : (s.answerHold b).pending = s.pending := rfl

/-! ### State.postIf and State.postLane -/

@[simp] theorem State.postIf_loader (c : Bool) (i : Instr) : (s.postIf c i).loader = s.loader := by cases c <;> rfl
@[simp] theorem State.postIf_cfg (c : Bool) (i : Instr) : (s.postIf c i).cfg = s.cfg := by cases c <;> rfl
@[simp] theorem State.postIf_retained (c : Bool) (i : Instr) : (s.postIf c i).retained = s.retained := by cases c <;> rfl
@[simp] theorem State.postIf_weigh (c : Bool) (i : Instr) : (s.postIf c i).weigh = s.weigh := by cases c <;> rfl
@[simp] theorem State.postIf_deck (c : Bool) (i : Instr) : (s.postIf c i).deck = s.deck := by cases c <;> rfl
@[simp] theorem State.postIf_barrierA (c : Bool) (i : Instr) : (s.postIf c i).barrierA = s.barrierA := by cases c <;> rfl
@[simp] theorem State.postIf_barrierB (c : Bool) (i : Instr) : (s.postIf c i).barrierB = s.barrierB := by cases c <;> rfl
@[simp] theorem State.postIf_flashLit (c : Bool) (i : Instr) : (s.postIf c i).flashLit = s.flashLit := by cases c <;> rfl
@[simp] theorem State.postIf_lane (c : Bool) (i : Instr) : (s.postIf c i).lane = s.lane := by cases c <;> rfl
@[simp] theorem State.postIf_visits (c : Bool) (i : Instr) : (s.postIf c i).visits = s.visits := by cases c <;> rfl
@[simp] theorem State.postIf_store (c : Bool) (i : Instr) : (s.postIf c i).store = s.store := by cases c <;> rfl
@[simp] theorem State.postIf_tickets (c : Bool) (i : Instr) : (s.postIf c i).tickets = s.tickets := by cases c <;> rfl
@[simp] theorem State.postIf_link (c : Bool) (i : Instr) : (s.postIf c i).link = s.link := by cases c <;> rfl
@[simp] theorem State.postIf_peers (c : Bool) (i : Instr) : (s.postIf c i).peers = s.peers := by cases c <;> rfl
@[simp] theorem State.postIf_cal (c : Bool) (i : Instr) : (s.postIf c i).cal = s.cal := by cases c <;> rfl
@[simp] theorem State.postIf_lines (c : Bool) (i : Instr) : (s.postIf c i).lines = s.lines := by cases c <;> rfl
@[simp] theorem State.postIf_answers (c : Bool) (i : Instr) : (s.postIf c i).answers = s.answers := by cases c <;> rfl
@[simp] theorem State.postIf_pending (c : Bool) (i : Instr) : (s.postIf c i).pending = s.pending := by cases c <;> rfl
@[simp] theorem State.postLane_loader (i : Instr) : (s.postLane i).loader = s.loader := State.postIf_loader s _ i
@[simp] theorem State.postLane_cfg (i : Instr) : (s.postLane i).cfg = s.cfg := State.postIf_cfg s _ i
@[simp] theorem State.postLane_retained (i : Instr) : (s.postLane i).retained = s.retained := State.postIf_retained s _ i
@[simp] theorem State.postLane_weigh (i : Instr) : (s.postLane i).weigh = s.weigh := State.postIf_weigh s _ i
@[simp] theorem State.postLane_deck (i : Instr) : (s.postLane i).deck = s.deck := State.postIf_deck s _ i
@[simp] theorem State.postLane_barrierA (i : Instr) : (s.postLane i).barrierA = s.barrierA := State.postIf_barrierA s _ i
@[simp] theorem State.postLane_barrierB (i : Instr) : (s.postLane i).barrierB = s.barrierB := State.postIf_barrierB s _ i
@[simp] theorem State.postLane_flashLit (i : Instr) : (s.postLane i).flashLit = s.flashLit := State.postIf_flashLit s _ i
@[simp] theorem State.postLane_lane (i : Instr) : (s.postLane i).lane = s.lane := State.postIf_lane s _ i
@[simp] theorem State.postLane_visits (i : Instr) : (s.postLane i).visits = s.visits := State.postIf_visits s _ i
@[simp] theorem State.postLane_store (i : Instr) : (s.postLane i).store = s.store := State.postIf_store s _ i
@[simp] theorem State.postLane_tickets (i : Instr) : (s.postLane i).tickets = s.tickets := State.postIf_tickets s _ i
@[simp] theorem State.postLane_link (i : Instr) : (s.postLane i).link = s.link := State.postIf_link s _ i
@[simp] theorem State.postLane_peers (i : Instr) : (s.postLane i).peers = s.peers := State.postIf_peers s _ i
@[simp] theorem State.postLane_cal (i : Instr) : (s.postLane i).cal = s.cal := State.postIf_cal s _ i
@[simp] theorem State.postLane_lines (i : Instr) : (s.postLane i).lines = s.lines := State.postIf_lines s _ i
@[simp] theorem State.postLane_answers (i : Instr) : (s.postLane i).answers = s.answers := State.postIf_answers s _ i
@[simp] theorem State.postLane_pending (i : Instr) : (s.postLane i).pending = s.pending := State.postIf_pending s _ i

/-! ### State.setBarrier -/

@[simp] theorem State.setBarrier_loader (e : End) (b : BarrierUnit) : (s.setBarrier e b).loader = s.loader := by cases e <;> rfl
@[simp] theorem State.setBarrier_cfg (e : End) (b : BarrierUnit) : (s.setBarrier e b).cfg = s.cfg := by cases e <;> rfl
@[simp] theorem State.setBarrier_retained (e : End) (b : BarrierUnit) : (s.setBarrier e b).retained = s.retained := by cases e <;> rfl
@[simp] theorem State.setBarrier_weigh (e : End) (b : BarrierUnit) : (s.setBarrier e b).weigh = s.weigh := by cases e <;> rfl
@[simp] theorem State.setBarrier_deck (e : End) (b : BarrierUnit) : (s.setBarrier e b).deck = s.deck := by cases e <;> rfl
@[simp] theorem State.setBarrier_flashLit (e : End) (b : BarrierUnit) : (s.setBarrier e b).flashLit = s.flashLit := by cases e <;> rfl
@[simp] theorem State.setBarrier_lane (e : End) (b : BarrierUnit) : (s.setBarrier e b).lane = s.lane := by cases e <;> rfl
@[simp] theorem State.setBarrier_visits (e : End) (b : BarrierUnit) : (s.setBarrier e b).visits = s.visits := by cases e <;> rfl
@[simp] theorem State.setBarrier_store (e : End) (b : BarrierUnit) : (s.setBarrier e b).store = s.store := by cases e <;> rfl
@[simp] theorem State.setBarrier_tickets (e : End) (b : BarrierUnit) : (s.setBarrier e b).tickets = s.tickets := by cases e <;> rfl
@[simp] theorem State.setBarrier_link (e : End) (b : BarrierUnit) : (s.setBarrier e b).link = s.link := by cases e <;> rfl
@[simp] theorem State.setBarrier_peers (e : End) (b : BarrierUnit) : (s.setBarrier e b).peers = s.peers := by cases e <;> rfl
@[simp] theorem State.setBarrier_cal (e : End) (b : BarrierUnit) : (s.setBarrier e b).cal = s.cal := by cases e <;> rfl
@[simp] theorem State.setBarrier_lines (e : End) (b : BarrierUnit) : (s.setBarrier e b).lines = s.lines := by cases e <;> rfl
@[simp] theorem State.setBarrier_answers (e : End) (b : BarrierUnit) : (s.setBarrier e b).answers = s.answers := by cases e <;> rfl
@[simp] theorem State.setBarrier_posted (e : End) (b : BarrierUnit) : (s.setBarrier e b).posted = s.posted := by cases e <;> rfl
@[simp] theorem State.setBarrier_pending (e : End) (b : BarrierUnit) : (s.setBarrier e b).pending = s.pending := by cases e <;> rfl
@[simp] theorem State.setBarrier_same (e : End) (b : BarrierUnit) : (s.setBarrier e b).barrier e = b := by
  cases e <;> rfl
@[simp] theorem State.setBarrier_other (e : End) (b : BarrierUnit) :
    (s.setBarrier e b).barrier e.other = s.barrier e.other := by cases e <;> rfl

/-! ### The transmit queues -/

@[simp] theorem LinkState.setQueue_same (l : LinkState) (q : QueueName) (t : TxQueue) : (l.setQueue q t).queue q = t := by
  cases q <;> rfl
@[simp] theorem LinkState.setQueue_tx (l : LinkState) (q : QueueName) (t : TxQueue) : (l.setQueue q t).tx = l.tx := by
  cases q <;> rfl
@[simp] theorem LinkState.setQueue_pointer (l : LinkState) (q : QueueName) (t : TxQueue) :
    (l.setQueue q t).pointer = l.pointer := by cases q <;> rfl
theorem LinkState.setQueue_other (l : LinkState) {q p : QueueName} (t : TxQueue) (h : p ≠ q) :
    (l.setQueue q t).queue p = l.queue p := by cases q <;> cases p <;> first | rfl | exact absurd rfl h

/-! ### The own conditions of the station -/

theorem State.live_iff : s.live = true ↔ s.loader.phase = .inForce := by simp [State.live]
theorem State.whenLive_live {s : State} (f : State → State) (h : s.live = true) : s.whenLive f = f s := by
  simp [State.whenLive, h]
theorem State.whenLive_not {s : State} (f : State → State) (h : s.live = false) : s.whenLive f = s := by
  simp [State.whenLive, h]
theorem State.whenLane_takes {s : State} (f : State → State) (h : s.laneTakes = true) : s.whenLane f = f s := by
  simp [State.whenLane, h]
theorem State.whenLane_not {s : State} (f : State → State) (h : s.laneTakes = false) : s.whenLane f = s := by
  simp [State.whenLane, h]
theorem State.whenYard_takes {s : State} (f : State → State) (h : s.takesYard = true) : s.whenYard f = f s := by
  simp [State.whenYard, h]
theorem State.whenBarriers_work {s : State} (f : State → State) (h : s.barriersWork = true) : s.whenBarriers f = f s := by
  simp [State.whenBarriers, h]
@[simp] theorem State.took_live (i : Instr) : (s.took i).live = s.live := rfl
@[simp] theorem State.took_offline (i : Instr) : (s.took i).offline = s.offline := rfl
@[simp] theorem State.took_laneTakes (i : Instr) : (s.took i).laneTakes = s.laneTakes := rfl
@[simp] theorem State.took_takesYard (i : Instr) : (s.took i).takesYard = s.takesYard := rfl
@[simp] theorem State.took_barriersWork (i : Instr) : (s.took i).barriersWork = s.barriersWork := rfl
@[simp] theorem State.took_own (i : Instr) : (s.took i).own = s.own := rfl
@[simp] theorem State.took_barrier (i : Instr) (e : End) : (s.took i).barrier e = s.barrier e := by cases e <;> rfl
@[simp] theorem State.took_active (i : Instr) (j : Input) : (s.took i).active? j = s.active? j := rfl

end Sys2Proof.Machine
end

