-- ==== Sys2Proof/Laws/Place.lean ====
section
/-! SUPPORT. What placing a frame can do, and the link controller's invariant through every operation that places. -/

namespace Sys2Proof.Machine

theorem satSucc_le (n : Nat) : satSucc n ≤ 65535 := Nat.min_le_right _ _

/-! ### Starting a frame (R144, R155) -/

/-- Starting a frame touches the pointer, the frame in transmission and the line only. -/
theorem LinkState.start_shape (l : LinkState) (table : Vector PhaseQueue 16) :
    ∃ p t b, l.start table = { l with pointer := p, tx := t, lineFree := b } := by
  unfold LinkState.start
  repeat' split
  all_goals exact ⟨_, _, _, rfl⟩

theorem LinkState.Inv.start {l : LinkState} (h : l.Inv) (table : Vector PhaseQueue 16) : (l.start table).Inv := by
  obtain ⟨p, t, b, e⟩ := l.start_shape table
  rw [e]
  exact ⟨h.urgent, h.visit, h.routine, h.bulk, h.badCheck, h.drops, h.malformed, h.statusDiscards, h.helpLost⟩

/-- Trying to start a frame changes the link controller only. -/
theorem State.tryStart_shape (s : State) : ∃ l, s.tryStart = { s with link := l } ∧ (s.link.Inv → l.Inv) := by
  unfold State.tryStart
  split
  · exact ⟨_, rfl, fun h => h.start _⟩
  · exact ⟨s.link, rfl, id⟩

/-! ### Placing (R152, R158) -/

theorem LinkState.Inv.push {l : LinkState} (h : l.Inv) {f : Frame} (room : l.hasRoom f.kind.queue = true) :
    (l.push f).Inv := by
  have hr : (l.queue f.kind.queue).frames.length < f.kind.queue.depth := by simpa [LinkState.hasRoom] using room
  unfold LinkState.push
  cases hq : f.kind.queue <;> rw [hq] at hr <;>
    simp only [LinkState.setQueue, LinkState.queue, QueueName.depth] at hr ⊢
  · exact ⟨⟨by simp; omega, h.urgent.2⟩, h.visit, h.routine, h.bulk, h.badCheck, h.drops, h.malformed,
      h.statusDiscards, h.helpLost⟩
  · exact ⟨h.urgent, ⟨by simp; omega, h.visit.2⟩, h.routine, h.bulk, h.badCheck, h.drops, h.malformed,
      h.statusDiscards, h.helpLost⟩
  · exact ⟨h.urgent, h.visit, ⟨by simp; omega, h.routine.2⟩, h.bulk, h.badCheck, h.drops, h.malformed,
      h.statusDiscards, h.helpLost⟩
  · exact ⟨h.urgent, h.visit, h.routine, ⟨by simp; omega, h.bulk.2⟩, h.badCheck, h.drops, h.malformed,
      h.statusDiscards, h.helpLost⟩

/-- Placing a frame changes the link controller only, and keeps its invariant. -/
theorem State.place_shape (s : State) (f : Frame) :
    ∃ l, (s.place f).1 = { s with link := l } ∧ (s.link.Inv → l.Inv) := by
  unfold State.place
  split
  · exact ⟨s.link, rfl, id⟩
  · split
    · exact ⟨s.link, rfl, id⟩
    · split
      · rename_i room
        obtain ⟨l, e, k⟩ := State.tryStart_shape { s with link := s.link.push f }
        exact ⟨l, by simpa using e, fun h => k (h.push room)⟩
      · exact ⟨s.link, rfl, id⟩

/-- A frame is placed where its queue has room, once JOINING has begun (R152). -/
theorem State.place_placed {s : State} {f : Frame} (hoff : s.offline = false)
    (hbegun : f.kind.queue ≠ .routine ∨ s.link.begun = true) (room : s.link.hasRoom f.kind.queue = true) :
    s.place f = ({ s with link := s.link.push f }.tryStart, true) := by
  rcases hbegun with h | h <;> simp [State.place, hoff, h, room]

/-- A full queue answers FULL and changes nothing (R152). -/
theorem State.place_full {s : State} {f : Frame} (hoff : s.offline = false)
    (full : s.link.hasRoom f.kind.queue = false) : s.place f = (s, false) := by
  simp [State.place, hoff, full]

/-- An OFFLINE station answers PLACED and discards the frame (R158). -/
theorem State.place_offline {s : State} {f : Frame} (hoff : s.offline = true) : s.place f = (s, true) := by
  simp [State.place, hoff]

/-- Placing a LANE-STATUS changes the link controller only. -/
theorem State.placeStatus_shape (s : State) (n : Option VisitNumber) :
    ∃ l, s.placeStatus n = { s with link := l } ∧ (s.link.Inv → l.Inv) := by
  obtain ⟨l, e, k⟩ := s.place_shape (laneStatusFrame s n)
  unfold State.placeStatus
  dsimp only
  split
  · exact ⟨l, e, k⟩
  · refine ⟨{ l with statusDiscards := satSucc l.statusDiscards }, by rw [e], fun h => ?_⟩
    have := k h
    exact ⟨this.urgent, this.visit, this.routine, this.bulk, this.badCheck, this.drops, this.malformed, satSucc_le _,
      this.helpLost⟩

theorem State.report_shape (s : State) : ∃ l, s.report = { s with link := l } ∧ (s.link.Inv → l.Inv) :=
  s.placeStatus_shape none

/-- Placing a HELP changes the link controller only. -/
theorem State.placeHelp_shape (s : State) (r : Reason) :
    ∃ l, s.placeHelp r = { s with link := l } ∧ (s.link.Inv → l.Inv) := by
  obtain ⟨l, e, k⟩ := s.place_shape (helpFrame s r)
  unfold State.placeHelp
  dsimp only
  split
  · exact ⟨l, e, k⟩
  · refine ⟨{ l with helpLost := satSucc l.helpLost }, by rw [e], fun h => ?_⟩
    have := k h
    exact ⟨this.urgent, this.visit, this.routine, this.bulk, this.badCheck, this.drops, this.malformed,
      this.statusDiscards, satSucc_le _⟩

/-- Raising help changes the link controller, the help status and the last reason only. -/
theorem State.raiseHelp_shape (s : State) (r : Reason) :
    ∃ l h o, s.raiseHelp r = { s with link := l, lane := { s.lane with help := h, lastHelp := o } } ∧
      (s.link.Inv → l.Inv) := by
  obtain ⟨l, e, k⟩ := s.placeHelp_shape r
  unfold State.raiseHelp
  split
  · exact ⟨s.link, s.lane.help, s.lane.lastHelp, rfl, id⟩
  · exact ⟨l, .pending, some r, by simp only [e], k⟩

end Sys2Proof.Machine
end

