-- ==== Sys2Proof/Laws/Barrier.lean ====
section
/-! SUPPORT. What the barrier operations can do: they change the barrier units and the events given, and keep the
barrier units' invariant. -/

namespace Sys2Proof.Machine

/-- `t` is `s` but for its barrier units and the events given, and keeps the barrier units' invariant. -/
def State.movesBarriers (s t : State) : Prop :=
  ∃ a b p, t = { s with barrierA := a, barrierB := b, posted := p } ∧ (s.barrierInv → a.Inv ∧ b.Inv)

theorem State.movesBarriers.refl (s : State) : s.movesBarriers s := ⟨s.barrierA, s.barrierB, s.posted, rfl, id⟩

theorem State.movesBarriers.trans {s t u : State} (h : s.movesBarriers t) (k : t.movesBarriers u) : s.movesBarriers u := by
  obtain ⟨a, b, p, rfl, i⟩ := h
  obtain ⟨c, d, q, rfl, j⟩ := k
  exact ⟨c, d, q, rfl, fun h => j (i h)⟩

theorem State.movesBarriers.postLane (s : State) (i : Instr) : s.movesBarriers (s.postLane i) := by
  unfold State.postLane State.postIf
  split
  · exact ⟨s.barrierA, s.barrierB, _, rfl, id⟩
  · exact .refl s

theorem State.barrierInv_barrier {s : State} (h : s.barrierInv) (e : End) : (s.barrier e).Inv := by
  cases e
  · exact h.1
  · exact h.2

theorem State.movesBarriers.setBarrier (s : State) (e : End) (b : BarrierUnit)
    (h : (s.barrier e).Inv → b.Inv) : s.movesBarriers (s.setBarrier e b) := by
  cases e
  · exact ⟨b, s.barrierB, s.posted, rfl, fun k => ⟨h k.1, k.2⟩⟩
  · exact ⟨s.barrierA, b, s.posted, rfl, fun k => ⟨k.1, h k.2⟩⟩

/-! ### Invariants of the units the operations make -/

theorem BarrierUnit.inv_fault (b : BarrierUnit) (r : FaultReason) :
    BarrierUnit.Inv { b with state := .fault, travel := none, lowerPending := false, reason := some r } :=
  ⟨by simp, by simp, by simp⟩

/-- A unit in FAULT has its timer stopped and its slot empty. -/
theorem BarrierUnit.Inv.fault_idle {b : BarrierUnit} (h : b.Inv) (f : b.state = .fault) :
    b.travel = none ∧ b.lowerPending = false := by
  refine ⟨?_, ?_⟩
  · rcases ht : b.travel with _ | v
    · rfl
    · rcases h.timer (by simp [ht]) with k | k <;> rw [f] at k <;> cases k
  · rcases hp : b.lowerPending with _ | _
    · rfl
    · rcases h.pending hp with k | k <;> rw [f] at k <;> cases k

theorem BarrierUnit.Inv.no_reason {b : BarrierUnit} (h : b.Inv) (f : b.state ≠ .fault) : b.reason = none := by
  rcases hr : b.reason with _ | v
  · rfl
  · exact absurd (h.reason.1 (by simp [hr])) f

/-! ### The operations (R41 to R49) -/

theorem State.enterFault_moves (s : State) (e : End) (r : FaultReason) : s.movesBarriers (s.enterFault e r) := by
  unfold State.enterFault
  split
  · exact .refl s
  · exact .trans (.setBarrier _ _ _ fun _ => BarrierUnit.inv_fault _ _) (.postLane _ _)

theorem State.takeDownLimit_moves (s : State) (e : End) : s.movesBarriers (s.takeDownLimit e) := by
  unfold State.takeDownLimit
  split
  · exact .refl s
  · split
    · exact s.enterFault_moves e _
    · split
      · rename_i hf
        refine .trans (.setBarrier _ _ _ fun h => ⟨by simp, fun hp => ?_, ?_⟩) (.postLane _ _)
        · rcases h.pending hp with k | k <;> rw [hf] at k <;> cases k
        · simp [h.no_reason (by rw [hf]; decide)]
      · exact .refl s

theorem State.startFall_moves (s : State) (e : End) (h : (s.barrier e).state ≠ .fault) :
    s.movesBarriers (s.startFall e) := by
  have k : s.movesBarriers (s.setBarrier e { s.barrier e with
      state := .falling, travel := some s.cfg.travelLimit, lowerPending := false }) :=
    .setBarrier _ _ _ fun i => ⟨by simp, by simp, by simp [i.no_reason h]⟩
  unfold State.startFall
  dsimp only
  split
  · exact .trans k (State.takeDownLimit_moves _ e)
  · exact k

theorem State.takeUpLimit_moves (s : State) (e : End) : s.movesBarriers (s.takeUpLimit e) := by
  unfold State.takeUpLimit
  split
  · exact .refl s
  · split
    · exact s.enterFault_moves e _
    · split
      · rename_i hr
        have k : s.movesBarriers ((s.setBarrier e { s.barrier e with state := .up, travel := none }).postLane
            (.laneBarrierArrival e .up)) := by
          refine .trans (.setBarrier _ _ _ fun h => ⟨by simp, by simp, ?_⟩) (.postLane _ _)
          simp [h.no_reason (by rw [hr]; decide)]
        dsimp only
        split
        · refine .trans k (State.startFall_moves _ e ?_)
          cases e <;> simp [State.barrier, State.setBarrier]
        · exact k
      · exact .refl s

theorem State.startRise_moves (s : State) (e : End) (p : Bool) (h : (s.barrier e).state ≠ .fault) :
    s.movesBarriers (s.startRise e p) := by
  have k : s.movesBarriers (s.setBarrier e { s.barrier e with
      state := .rising, travel := some s.cfg.travelLimit, lowerPending := p }) :=
    .setBarrier _ _ _ fun i => ⟨by simp, by simp, by simp [i.no_reason h]⟩
  unfold State.startRise
  dsimp only
  split
  · exact .trans k (State.takeUpLimit_moves _ e)
  · exact k

/-- A pending slot set in RISING or UP, or emptied. -/
theorem State.setPending_moves (s : State) (e : End) (p : Bool)
    (h : p = true → (s.barrier e).state = .rising ∨ (s.barrier e).state = .up) :
    s.movesBarriers (s.setBarrier e { s.barrier e with lowerPending := p }) :=
  .setBarrier _ _ _ fun i => ⟨i.timer, h, i.reason⟩

theorem State.raiseBarrier_moves (s : State) (e : End) : s.movesBarriers (s.raiseBarrier e).1 := by
  unfold State.raiseBarrier
  split
  · exact .refl s
  · rename_i h; exact s.startRise_moves e _ (by rw [h]; decide)
  · rename_i h; exact s.startRise_moves e _ (by rw [h]; decide)
  · exact s.setPending_moves e _ (by simp)
  · exact s.setPending_moves e _ (by simp)

theorem State.lowerBarrier_moves (s : State) (e : End) : s.movesBarriers (s.lowerBarrier e).1 := by
  unfold State.lowerBarrier
  split
  · exact .refl s
  · exact .refl s
  · exact .refl s
  · rename_i h; exact s.setPending_moves e _ (fun _ => .inl h)
  · rename_i h
    split
    · exact s.setPending_moves e _ (fun _ => .inr h)
    · exact s.startFall_moves e (by rw [h]; decide)

/-- RAISE is ACCEPTED in every state but FAULT (R41). -/
theorem State.raiseBarrier_accepted (s : State) (e : End) : (s.raiseBarrier e).2 = true ↔ (s.barrier e).state ≠ .fault := by
  unfold State.raiseBarrier
  split <;> simp_all

/-- LOWER is ACCEPTED in every state but FAULT (R41). -/
theorem State.lowerBarrier_accepted (s : State) (e : End) : (s.lowerBarrier e).2 = true ↔ (s.barrier e).state ≠ .fault := by
  unfold State.lowerBarrier
  split
  all_goals first
    | (simp_all; done)
    | (simp_all; split <;> rfl)

theorem State.requestHead_moves (s : State) (e : End) (r g : LampMode) : s.movesBarriers (s.requestHead e r g) :=
  .setBarrier _ _ _ fun i => ⟨i.timer, i.pending, i.reason⟩

theorem State.requestHeads_moves (s : State) (g : Option End) : s.movesBarriers (s.requestHeads g) :=
  .trans (s.requestHead_moves _ _ _) (State.requestHead_moves _ _ _ _)

theorem State.takeSafetyActivation_moves (s : State) (e : End) : s.movesBarriers (s.takeSafetyActivation e) := by
  unfold State.takeSafetyActivation
  split
  · rename_i h; exact s.startRise_moves e _ (by rw [h]; decide)
  · exact .refl s

theorem State.takeSafetyRelease_moves (s : State) (e : End) : s.movesBarriers (s.takeSafetyRelease e) := by
  unfold State.takeSafetyRelease
  split
  · rename_i h; exact s.startFall_moves e (by rw [h.1]; decide)
  · exact .refl s

theorem State.travelExpiry_moves (s : State) (e : End) : s.movesBarriers (s.travelExpiry e) := by
  unfold State.travelExpiry
  split
  · exact s.enterFault_moves e _
  · exact .refl s

theorem State.resetBarrier_moves (s : State) (e : End) : s.movesBarriers (s.resetBarrier e).1 := by
  unfold State.resetBarrier
  dsimp only
  split
  · exact .refl s
  · rename_i hf
    have hf : (s.barrier e).state = .fault := by simpa using hf
    repeat' split
    all_goals
      refine .setBarrier _ _ _ fun i => ⟨?_, ?_, ?_⟩ <;> simp_all [i.fault_idle hf]

end Sys2Proof.Machine
end

