-- ==== Sys2Proof/Laws/Lane.lean ====
section
/-! SUPPORT. What the lane controller's operations can do: they change the lane, the frames placed, the barrier units,
the order of the stored tares, the answers kept, the events given, the capture request and the window, and nothing
else; and they keep the invariants of what they change. -/

namespace Sys2Proof.Machine

/-- What a lane operation may change. -/
structure LaneChange where
  lane     : Lane
  link     : LinkState
  barrierA : BarrierUnit
  barrierB : BarrierUnit
  store    : TareStore
  answers  : Answers
  posted   : List Posted
  request  : Bool
  window   : List Int

/-- The state with a lane operation's changes. -/
def LaneChange.on (c : LaneChange) (s : State) : State :=
  { s with
    lane := c.lane, link := c.link, barrierA := c.barrierA, barrierB := c.barrierB, store := c.store
    answers := c.answers, posted := c.posted
    weigh := { s.weigh with captureRequest := c.request, window := c.window } }

/-- A state's own values. -/
def LaneChange.ofState (s : State) : LaneChange :=
  { lane := s.lane, link := s.link, barrierA := s.barrierA, barrierB := s.barrierB, store := s.store
    answers := s.answers, posted := s.posted, request := s.weigh.captureRequest, window := s.weigh.window }

/-- The invariants of what a lane operation changes are kept. -/
structure LaneChange.Keeps (c : LaneChange) (s : State) : Prop where
  link     : s.link.Inv → c.link.Inv
  barriers : s.barrierInv → c.barrierA.Inv ∧ c.barrierB.Inv
  tares    : s.store.tares.length ≤ 64 → c.store.tares.length ≤ 64
  orphans  : s.lane.orphans ≤ 65535 → c.lane.orphans ≤ 65535
  tariff   : c.store.tariff = s.store.tariff
  reported : c.lane.reported = s.lane.reported

/-- `t` is `s` but for what a lane operation may change, with the invariants kept. -/
def State.movesLane (s t : State) : Prop := ∃ c : LaneChange, t = c.on s ∧ c.Keeps s

theorem State.movesLane.refl (s : State) : s.movesLane s :=
  ⟨.ofState s, rfl, ⟨id, id, id, id, rfl, rfl⟩⟩

theorem State.movesLane.trans {s t u : State} (h : s.movesLane t) (k : t.movesLane u) : s.movesLane u := by
  obtain ⟨c, rfl, i⟩ := h
  obtain ⟨d, rfl, j⟩ := k
  exact ⟨d, rfl, ⟨fun x => j.link (i.link x), fun x => j.barriers (i.barriers x), fun x => j.tares (i.tares x),
    fun x => j.orphans (i.orphans x), j.tariff.trans i.tariff, j.reported.trans i.reported⟩⟩

theorem State.movesLane.of_barriers {s t : State} (h : s.movesBarriers t) : s.movesLane t := by
  obtain ⟨a, b, p, rfl, i⟩ := h
  exact ⟨{ LaneChange.ofState s with barrierA := a, barrierB := b, posted := p }, rfl, ⟨id, i, id, id, rfl, rfl⟩⟩

theorem State.movesLane.of_link {s t : State} (h : ∃ l, t = { s with link := l } ∧ (s.link.Inv → l.Inv)) :
    s.movesLane t := by
  obtain ⟨l, rfl, i⟩ := h
  exact ⟨{ LaneChange.ofState s with link := l }, rfl, ⟨i, id, id, id, rfl, rfl⟩⟩

/-- A change of the lane's own state. -/
theorem State.movesLane.of_lane (s : State) (l : Lane) (h : s.lane.orphans ≤ 65535 → l.orphans ≤ 65535)
    (r : l.reported = s.lane.reported) : s.movesLane { s with lane := l } :=
  ⟨{ LaneChange.ofState s with lane := l }, rfl, ⟨id, id, id, h, rfl, r⟩⟩

theorem State.movesLane.of_posted (s : State) (p : List Posted) : s.movesLane { s with posted := p } :=
  ⟨{ LaneChange.ofState s with posted := p }, rfl, ⟨id, id, id, id, rfl, rfl⟩⟩

theorem State.movesLane.of_answers (s : State) (a : Answers) : s.movesLane { s with answers := a } :=
  ⟨{ LaneChange.ofState s with answers := a }, rfl, ⟨id, id, id, id, rfl, rfl⟩⟩

/-! ### The small operations -/

theorem State.withRecord_moves (s : State) (r : TxnRecord) : s.movesLane (s.withRecord r) := .of_lane _ _ id rfl
theorem State.showSign_moves (s : State) (c : Sign) : s.movesLane (s.showSign c) := .of_lane _ _ id rfl
theorem State.withProgress_moves (s : State) (p : Progress) : s.movesLane (s.withProgress p) := .of_lane _ _ id rfl
theorem State.stopLaneTimers_moves (s : State) : s.movesLane s.stopLaneTimers := .of_lane _ _ id rfl
theorem State.recordCommand_moves (s : State) (c : OfficeCommand) (r : CommandResult) :
    s.movesLane (s.recordCommand c r) := .of_lane _ _ id rfl
theorem State.countOrphan_moves (s : State) : s.movesLane s.countOrphan := .of_lane _ _ (fun _ => satSucc_le _) rfl
theorem State.report_moves (s : State) : s.movesLane s.report := .of_link s.report_shape
theorem State.placeStatus_moves (s : State) (n : Option VisitNumber) : s.movesLane (s.placeStatus n) :=
  .of_link (s.placeStatus_shape n)
theorem State.post_moves (s : State) (i : Instr) : s.movesLane (s.post i) := .of_posted _ _
theorem State.took_moves (s : State) (i : Instr) : s.movesLane (s.took i) := .of_posted _ _

theorem State.raiseHelp_moves (s : State) (r : Reason) : s.movesLane (s.raiseHelp r) := by
  obtain ⟨l, h, o, e, k⟩ := s.raiseHelp_shape r
  rw [e]
  exact .trans (.of_link (s := s) ⟨l, rfl, k⟩) (.of_lane _ _ id rfl)

theorem State.openCapture_moves (s : State) : s.movesLane s.openCapture :=
  ⟨{ LaneChange.ofState s with request := true, window := [] }, rfl, ⟨id, id, id, id, rfl, rfl⟩⟩
theorem State.closeCapture_moves (s : State) : s.movesLane s.closeCapture :=
  ⟨{ LaneChange.ofState s with request := false }, rfl, ⟨id, id, id, id, rfl, rfl⟩⟩

theorem State.raise_moves (s : State) (e : End) : s.movesLane (s.raiseBarrier e).1 := .of_barriers (s.raiseBarrier_moves e)
theorem State.lower_moves (s : State) (e : End) : s.movesLane (s.lowerBarrier e).1 := .of_barriers (s.lowerBarrier_moves e)
theorem State.heads_moves (s : State) (g : Option End) : s.movesLane (s.requestHeads g) :=
  .of_barriers (s.requestHeads_moves g)
theorem State.head_moves (s : State) (e : End) (r g : LampMode) : s.movesLane (s.requestHead e r g) :=
  .of_barriers (s.requestHead_moves e r g)

theorem State.setState_moves (s : State) (l : LaneState) (g : Option End) (c : Sign) : s.movesLane (s.setState l g c) :=
  .trans (s.heads_moves g) (.of_lane _ _ id rfl)

theorem State.askFrame_moves (s : State) (a : Asked) (i : Instr) : s.movesLane (s.askFrame a i) :=
  .trans (.of_lane s { s.lane with asked := some a } id rfl) (.of_posted _ _)

theorem State.withdraw_moves (s : State) : s.movesLane s.withdraw := by
  unfold State.withdraw
  split
  · exact .trans (.of_lane s { s.lane with asked := none } id rfl) (.trans (.of_posted _ _) (.of_posted _ _))
  · exact .refl s

theorem State.withdrawIssue_moves (s : State) : s.movesLane s.withdrawIssue := by
  unfold State.withdrawIssue
  split
  · exact s.post_moves _
  · exact .refl s

theorem State.withdrawOutsideAssist_moves (s : State) : s.movesLane s.withdrawOutsideAssist := by
  unfold State.withdrawOutsideAssist
  split
  · exact .refl s
  · exact s.withdraw_moves

theorem State.askReclaim_moves (s : State) : s.movesLane s.askReclaim := by
  unfold State.askReclaim
  split
  · exact s.askFrame_moves _ _
  · exact .refl s

theorem State.askCloseAgain_moves (s : State) : s.movesLane s.askCloseAgain := by
  unfold State.askCloseAgain
  split
  · exact s.askFrame_moves _ _
  · exact .refl s

/-! ### Entries into states -/

theorem State.enterAssist_moves (s : State) (r : Reason) : s.movesLane (s.enterAssist r) := by
  unfold State.enterAssist
  exact (((((((s.withdrawOutsideAssist_moves).trans (State.withdrawIssue_moves _)).trans
    (State.stopLaneTimers_moves _)).trans (State.closeCapture_moves _)).trans
    (State.setState_moves _ .assist none .seeOffice)).trans (State.withRecord_moves _ _)).trans
    (State.raiseHelp_moves _ _)).trans (State.report_moves _)

theorem State.enterIdle_moves (s : State) : s.movesLane s.enterIdle := by
  unfold State.enterIdle
  extract_lets cleared lowered shown
  have h : s.movesLane shown := (((((s.withRecord_moves _).trans (State.stopLaneTimers_moves _)).trans
    (State.closeCapture_moves _)).trans (State.lower_moves _ .a)).trans (State.lower_moves _ .b)).trans
    (State.setState_moves _ _ _ _)
  exact ((h.trans (.of_lane shown { shown.lane with help := .none, asked := none, ticketed := false } id rfl)).trans
    (State.post_moves _ .ready)).trans (State.report_moves _)

theorem State.enterDeckBlocked_moves (s : State) : s.movesLane s.enterDeckBlocked := by
  unfold State.enterDeckBlocked
  exact .trans (s.lower_moves _) (.trans (State.lower_moves _ _) (.trans (State.setState_moves _ _ _ _)
    (.trans (State.raiseHelp_moves _ _) (State.report_moves _))))

theorem State.enterHeld_moves (s : State) : s.movesLane s.enterHeld :=
  .trans (s.setState_moves _ _ _) (State.report_moves _)

/-! ### The store's answers -/

theorem TareStore.find_some {t : TareStore} {token : Token} {r : TareRecord} (h : t.find token = some r) :
    r ∈ t.tares ∧ (r.token == token) = true :=
  ⟨List.mem_of_find?_eq_some h, List.find?_some (p := fun r : TareRecord => r.token == token) h⟩

/-- A record is moved to the tail: the count stands. -/
theorem TareStore.drop_length {t : TareStore} {token : Token} {r : TareRecord} (h : t.find token = some r) :
    (t.drop token).tares.length < t.tares.length := by
  obtain ⟨hm, ht⟩ := TareStore.find_some h
  have ht : r.token = token := by simpa using ht
  exact List.length_filter_lt_length_iff_exists.2 ⟨r, hm, by simp [ht]⟩

theorem TareStore.lookedUp_length (t : TareStore) (clock : Option DepotTime) (token : Token) :
    (t.lookedUp clock token).tares.length ≤ t.tares.length := by
  unfold TareStore.lookedUp
  split
  · rename_i r h
    unfold TareStore.unexpired at h
    split at h
    · rename_i q hq
      have := TareStore.drop_length hq
      simp only [List.length_append, List.length_singleton]
      omega
    · cases h
  · exact Nat.le_refl _

theorem TareStore.lookedUp_tariff (t : TareStore) (clock : Option DepotTime) (token : Token) :
    (t.lookedUp clock token).tariff = t.tariff := by
  unfold TareStore.lookedUp
  split <;> rfl

theorem State.lookedUp_moves (s : State) (token : Token) :
    s.movesLane { s with store := s.store.lookedUp s.peers.clock token } :=
  ⟨{ LaneChange.ofState s with store := s.store.lookedUp s.peers.clock token }, rfl,
    ⟨id, id, fun h => Nat.le_trans (TareStore.lookedUp_length _ _ _) h, id, TareStore.lookedUp_tariff _ _ _, rfl⟩⟩

theorem State.resolveCategory_moves (s : State) (token : Token) (reader : Option Category) :
    s.movesLane (s.resolveCategory token reader).1 := by
  unfold State.resolveCategory
  split
  · exact .of_answers _ _
  · exact .trans (s.lookedUp_moves token) (.of_answers _ _)

theorem State.requestKind_moves (s : State) (token : Token) (c : Category) : s.movesLane (s.requestKind token c) := by
  unfold State.requestKind
  dsimp only
  split
  · exact .of_answers _ _
  · exact .trans (.of_answers s { s.answers with kind := some (s.kindAnswer token c) }) (State.lookedUp_moves _ token)

theorem State.askClosed_moves (s : State) (c : Category) : s.movesLane (s.askClosed c) := .of_answers _ _

/-! ### Weighing, claim, lookup -/

theorem State.settleCategory_moves (s : State) : s.movesLane s.settleCategory := by
  unfold State.settleCategory
  split
  · exact .trans (s.resolveCategory_moves _ _) (State.withRecord_moves _ _)
  · exact .refl s

theorem State.askHeldClosed_moves (s : State) : s.movesLane s.askHeldClosed := by
  unfold State.askHeldClosed
  split
  · exact s.askClosed_moves _
  · exact .refl s

theorem State.enterWeighing_moves (s : State) : s.movesLane s.enterWeighing := by
  unfold State.enterWeighing
  extract_lets w src r t u
  have h : s.movesLane t := (s.openCapture_moves.trans (State.setState_moves _ _ _ _)).trans (.of_lane w _ id rfl)
  have k : s.movesLane u := ((h.trans (State.settleCategory_moves _)).trans (State.report_moves _)).trans
    (State.askHeldClosed_moves _)
  split
  · split
    · exact k.trans (State.enterAssist_moves _ _)
    · exact k
  · exact h.trans (State.report_moves _)

theorem State.awaitActive_moves (s : State) : s.movesLane s.awaitActive :=
  .trans (s.showSign_moves _) (.of_lane _ _ id rfl)

theorem State.askClaim_moves (s : State) : s.movesLane s.askClaim := by
  unfold State.askClaim
  split
  · exact s.askFrame_moves _ _
  · exact .refl s

theorem State.goClaim_moves (s : State) : s.movesLane s.goClaim := by
  unfold State.goClaim
  split
  · exact s.awaitActive_moves
  · split
    · dsimp only
      split
      · exact .trans (s.requestKind_moves _ _) (State.enterAssist_moves _ _)
      · exact .trans (s.requestKind_moves _ _) (.trans (State.withRecord_moves _ _) (State.askClaim_moves _))
    · exact .refl s

theorem State.visitFound_moves (s : State) (v : VisitRecord) : s.movesLane (s.visitFound v) := by
  unfold State.visitFound
  dsimp only
  split
  · exact .trans (s.withRecord_moves _) (State.askFrame_moves _ _ _)
  · split
    · exact .trans (s.withRecord_moves _) (State.askFrame_moves _ _ _)
    · exact .trans (s.withRecord_moves _) (State.enterAssist_moves _ _)

theorem State.visitAbsent_moves (s : State) : s.movesLane s.visitAbsent := by
  unfold State.visitAbsent
  split
  · split
    · exact s.awaitActive_moves
    · exact .trans s.openCapture_moves (.trans (State.setState_moves _ _ _ _) (.trans (State.awaitActive_moves _)
        (State.report_moves _)))
  · exact s.enterAssist_moves _

theorem State.doLookup_moves (s : State) : s.movesLane s.doLookup := by
  unfold State.doLookup
  split
  · exact .refl s
  · dsimp only
    split
    · exact .trans (.of_answers s _) (State.visitFound_moves _ _)
    · exact .trans (.of_answers s _) (State.visitAbsent_moves _)

/-! ### Boarding, departure, ticket, BACK and PASS -/

theorem State.boardingTest_moves (s : State) : s.movesLane s.boardingTest := by
  unfold State.boardingTest
  split
  · dsimp only
    split
    · exact .trans (s.lower_moves _) (.trans (State.withRecord_moves _ _) (State.enterWeighing_moves _))
    · exact .trans (s.lower_moves _) (State.enterAssist_moves _ _)
  · exact .refl s

theorem State.enterBoarding_moves (s : State) : s.movesLane s.enterBoarding :=
  .trans (s.setState_moves _ _ _) (.trans (State.report_moves _) (State.boardingTest_moves _))

theorem State.raiseToBoard_moves (s : State) : s.movesLane s.raiseToBoard := by
  unfold State.raiseToBoard
  dsimp only
  split
  · exact .trans (s.raise_moves _) (State.enterBoarding_moves _)
  · exact .trans (s.raise_moves _) (State.enterAssist_moves _ _)

theorem State.clearTest_moves (s : State) : s.movesLane s.clearTest := by
  unfold State.clearTest
  split
  · dsimp only
    split
    · exact ((((State.movesLane.of_lane s { s.lane with clearDeckLimit := none } id rfl).trans
        (State.lower_moves _ _)).trans (State.head_moves _ _ .on .off)).trans (State.showSign_moves _ .blank)).trans
        (.of_lane _ _ id rfl)
    · exact .trans (.of_lane s { s.lane with clearDeckLimit := none } id rfl) (.trans (State.lower_moves _ _)
        (State.enterAssist_moves _ _))
  · exact .refl s

theorem State.farUp_moves (s : State) : s.movesLane s.farUp := by
  unfold State.farUp
  extract_lets t
  have h : s.movesLane t := (s.head_moves _ .off .on).trans (State.showSign_moves _ _)
  exact (h.trans (.of_lane t { t.lane with leg := .clearing, clearDeckLimit := some t.cfg.clearDeckLimit } id rfl)).trans
    (State.clearTest_moves _)

theorem State.enterDeparting_moves (s : State) : s.movesLane s.enterDeparting := by
  unfold State.enterDeparting
  extract_lets t
  have h : s.movesLane t := (s.head_moves _ .on .off).trans (State.showSign_moves _ _)
  exact (h.trans (.of_lane t { t.lane with
    state := .departing, leg := .rising, waitActive := false
    record := { t.lane.record with assist := none } } id rfl)).trans (State.report_moves _)

theorem State.depart_moves (s : State) : s.movesLane s.depart := by
  unfold State.depart
  dsimp only
  split
  · split
    · exact .trans (s.raise_moves _) (.trans (State.enterDeparting_moves _) (State.farUp_moves _))
    · exact .trans (s.raise_moves _) (State.enterDeparting_moves _)
  · exact .trans (s.raise_moves _) (State.enterAssist_moves _ _)

theorem State.startIssue_moves (s : State) : s.movesLane s.startIssue := by
  unfold State.startIssue
  split
  · exact .refl s
  · extract_lets t
    have h : s.movesLane t := (s.post_moves _).trans (State.setState_moves _ .ticketing none .wait)
    split
    · exact (h.trans (State.raiseHelp_moves _ _)).trans (State.report_moves _)
    · exact h.trans (State.report_moves _)

theorem State.reversingTest_moves (s : State) : s.movesLane s.reversingTest := by
  unfold State.reversingTest
  split
  · dsimp only
    split
    · exact .trans (s.lower_moves _) (.of_lane _ _ id rfl)
    · exact .trans (s.lower_moves _) (State.enterAssist_moves _ _)
  · exact .refl s

theorem State.nearUp_moves (s : State) : s.movesLane s.nearUp :=
  .trans (.of_lane s { s.lane with leg := .clearing } id rfl) (State.reversingTest_moves _)

theorem State.enterReversing_moves (s : State) : s.movesLane s.enterReversing := by
  unfold State.enterReversing
  extract_lets t
  have h : s.movesLane t := s.setState_moves _ _ _
  split
  · exact (h.trans (State.countOrphan_moves _)).trans (State.placeStatus_moves _ _)
  · exact h.trans (State.report_moves _)

theorem State.applyBack_moves (s : State) : s.movesLane s.applyBack := by
  unfold State.applyBack
  extract_lets t r
  have h : s.movesLane r.1 := ((s.withdraw_moves.trans (State.closeCapture_moves _)).trans
    (State.stopLaneTimers_moves _)).trans (State.raise_moves _ _)
  split
  · split
    · exact (h.trans (State.enterReversing_moves _)).trans (State.nearUp_moves _)
    · exact h.trans (State.enterReversing_moves _)
  · exact h.trans (State.enterAssist_moves _ _)

theorem State.applyPass_moves (s : State) : s.movesLane s.applyPass :=
  .trans s.withdraw_moves (.trans (State.withdrawIssue_moves _) (.trans (State.closeCapture_moves _)
    (.trans (State.stopLaneTimers_moves _) (State.depart_moves _))))

theorem State.applyHeld_moves (s : State) (c : HeldCommand) : s.movesLane (s.applyHeld c) := by
  cases c
  · exact s.applyBack_moves
  · exact s.applyPass_moves

theorem State.discardPending_moves (s : State) : s.movesLane s.discardPending := by
  unfold State.discardPending
  split
  · exact .trans (s.withRecord_moves _) (.trans (State.recordCommand_moves _ _ _) (State.report_moves _))
  · exact .refl s

theorem State.applyPendingOr_moves (s : State) (f : State → State) (h : s.movesLane (f s)) :
    s.movesLane (s.applyPendingOr f) := by
  unfold State.applyPendingOr
  split
  · exact .trans (s.withRecord_moves _) (.trans (State.recordCommand_moves _ _ _) (State.applyHeld_moves _ _))
  · exact h

end Sys2Proof.Machine
end

