-- ==== Sys2Proof/Laws/Keeps.lean ====
section
/-! SUPPORT. What the operations of every block keep: each invariant, the straps and configured values, the commands
waiting, and the retained values, to which they can only ask for commits. One lemma for each shared operation. -/

namespace Sys2Proof.Machine

/-- `t` keeps every invariant of `s`, its configuration, its queue and its retained values. -/
structure State.keeps (s t : State) : Prop where
  link     : s.link.Inv → t.link.Inv
  visits   : s.visits.Inv → s.cfg.yardLimit ≤ 96 → t.visits.Inv
  tickets  : s.ticketInv → t.ticketInv
  barriers : s.barrierInv → t.barrierInv
  weigh    : s.weigh.Inv → t.weigh.Inv
  zero     : s.zeroInv → t.zeroInv
  tares    : s.tareInv → t.tareInv
  orphans  : s.orphanInv → t.orphanInv
  own      : s.ownEntryInv → t.ownEntryInv
  clock    : s.clockInv → t.clockInv
  loader   : t.loader = s.loader
  cfg      : t.cfg = s.cfg
  pending  : t.pending = s.pending
  values   : { t.retained with commits := s.retained.commits } = s.retained
  commits  : s.retained.commits <+: t.retained.commits

theorem State.keeps.refl (s : State) : s.keeps s :=
  ⟨id, fun h _ => h, id, id, id, id, id, id, id, id, rfl, rfl, rfl, rfl, List.prefix_rfl⟩

theorem State.keeps.trans {s t u : State} (h : s.keeps t) (k : t.keeps u) : s.keeps u where
  link x := k.link (h.link x)
  visits x y := k.visits (h.visits x y) (by rw [h.cfg]; exact y)
  tickets x := k.tickets (h.tickets x)
  barriers x := k.barriers (h.barriers x)
  weigh x := k.weigh (h.weigh x)
  zero x := k.zero (h.zero x)
  tares x := k.tares (h.tares x)
  orphans x := k.orphans (h.orphans x)
  own x := k.own (h.own x)
  clock x := k.clock (h.clock x)
  loader := k.loader.trans h.loader
  cfg := k.cfg.trans h.cfg
  pending := k.pending.trans h.pending
  values := by
    have a := h.values; have b := k.values
    rw [← a, ← b]
  commits := h.commits.trans k.commits

/-- Where only parts that no invariant speaks of change, everything is kept. -/
theorem State.keeps.of_eq {s t : State} (link : t.link = s.link) (visits : t.visits = s.visits)
    (tickets : t.tickets = s.tickets) (a : t.barrierA = s.barrierA) (b : t.barrierB = s.barrierB)
    (weigh : t.weigh = s.weigh) (store : t.store = s.store) (lane : t.lane.orphans = s.lane.orphans)
    (peers : t.peers = s.peers) (loader : t.loader = s.loader) (cfg : t.cfg = s.cfg) (pending : t.pending = s.pending)
    (retained : t.retained = s.retained) : s.keeps t where
  link := by rw [link]; exact id
  visits := by rw [visits]; exact fun h _ => h
  tickets := by unfold State.ticketInv; rw [tickets]; exact id
  barriers := by unfold State.barrierInv; rw [a, b]; exact id
  weigh := by rw [weigh]; exact id
  zero := by unfold State.zeroInv; rw [weigh, retained]; exact id
  tares := by unfold State.tareInv; rw [store]; exact id
  orphans := by unfold State.orphanInv; rw [lane]; exact id
  own := by simp only [State.ownEntryInv, State.own, peers, loader]; exact id
  clock := by unfold State.clockInv; rw [peers]; exact id
  loader := loader
  cfg := cfg
  pending := pending
  values := by rw [retained]
  commits := by rw [retained]

/-- A lane operation keeps everything. -/
theorem State.movesLane.keeps {s t : State} (h : s.movesLane t) : s.keeps t := by
  obtain ⟨c, rfl, k⟩ := h
  exact ⟨k.link, fun x _ => x, id, k.barriers, fun x => ⟨x.unset, x.goods, x.faults⟩, id, k.tares, k.orphans, id, id, rfl,
    rfl, rfl, rfl, List.prefix_rfl⟩

theorem State.movesBarriers.keeps {s t : State} (h : s.movesBarriers t) : s.keeps t :=
  State.movesLane.keeps (.of_barriers h)

theorem State.post_keeps (s : State) (i : Instr) : s.keeps (s.post i) := (s.post_moves i).keeps
theorem State.took_keeps (s : State) (i : Instr) : s.keeps (s.took i) := (s.took_moves i).keeps

theorem State.postIf_keeps (s : State) (c : Bool) (i : Instr) : s.keeps (s.postIf c i) := by
  unfold State.postIf
  split
  · exact s.post_keeps i
  · exact .refl s

theorem State.postLane_keeps (s : State) (i : Instr) : s.keeps (s.postLane i) := s.postIf_keeps _ i

theorem State.place_keeps (s : State) (f : Frame) : s.keeps (s.place f).1 := (State.movesLane.of_link (s.place_shape f)).keeps

theorem State.report_keeps (s : State) : s.keeps s.report := s.report_moves.keeps

theorem State.countMalformed_keeps (s : State) : s.keeps s.countMalformed :=
  State.movesLane.keeps (.of_link ⟨_, rfl, fun h => ⟨h.urgent, h.visit, h.routine, h.bulk, h.badCheck, h.drops,
    satSucc_le _, h.statusDiscards, h.helpLost⟩⟩)

theorem State.whenLive_keeps (s : State) (f : State → State) (h : ∀ t : State, t.keeps (f t)) : s.keeps (s.whenLive f) := by
  unfold State.whenLive
  split
  · exact h s
  · exact .refl s

theorem State.whenLane_keeps (s : State) (f : State → State) (h : ∀ t : State, t.keeps (f t)) : s.keeps (s.whenLane f) := by
  unfold State.whenLane
  split
  · exact h s
  · exact .refl s

theorem State.whenYard_keeps (s : State) (f : State → State) (h : ∀ t : State, t.keeps (f t)) : s.keeps (s.whenYard f) := by
  unfold State.whenYard
  split
  · exact h s
  · exact .refl s

theorem State.whenBarriers_keeps (s : State) (f : State → State) (h : ∀ t : State, t.keeps (f t)) : s.keeps (s.whenBarriers f) := by
  unfold State.whenBarriers
  split
  · exact h s
  · exact .refl s

theorem State.whenTarget_keeps (s : State) (b : Byte) (f : State → State) (h : ∀ t : State, t.keeps (f t)) :
    s.keeps (s.whenTarget b f) := by
  unfold State.whenTarget
  refine s.whenLane_keeps _ fun t => ?_
  split
  · exact h t
  · exact .refl t

/-! ### One part changed, with its invariant kept -/

/-- A change of the weighing channel; where it changes Z, the new Z lies in its range. -/
theorem State.keeps.of_weigh (s : State) (w : WeighState) (h : s.weigh.Inv → w.Inv)
    (z : s.zeroInv → (w.zero.natAbs : Int) ≤ zeroRangeOf s.retained.cal.capacity) : s.keeps { s with weigh := w } where
  link := id
  visits := fun h _ => h
  tickets := id
  barriers := id
  weigh := h
  zero := z
  tares := id
  orphans := id
  own := id
  clock := id
  loader := rfl
  cfg := rfl
  pending := rfl
  values := rfl
  commits := List.prefix_rfl

theorem State.keeps.of_visits (s : State) (v : VisitState) (h : s.visits.Inv → s.cfg.yardLimit ≤ 96 → v.Inv) :
    s.keeps { s with visits := v } where
  link := id
  visits := h
  tickets := id
  barriers := id
  weigh := id
  zero := id
  tares := id
  orphans := id
  own := id
  clock := id
  loader := rfl
  cfg := rfl
  pending := rfl
  values := rfl
  commits := List.prefix_rfl

theorem State.keeps.of_tickets (s : State) (t : TicketState) (h : s.tickets.placesTaken ≤ 4 → t.placesTaken ≤ 4) :
    s.keeps { s with tickets := t } where
  link := id
  visits := fun h _ => h
  tickets := h
  barriers := id
  weigh := id
  zero := id
  tares := id
  orphans := id
  own := id
  clock := id
  loader := rfl
  cfg := rfl
  pending := rfl
  values := rfl
  commits := List.prefix_rfl

theorem State.keeps.of_store (s : State) (t : TareStore) (h : s.store.tares.length ≤ 64 → t.tares.length ≤ 64) :
    s.keeps { s with store := t } where
  link := id
  visits := fun h _ => h
  tickets := id
  barriers := id
  weigh := id
  zero := id
  tares := h
  orphans := id
  own := id
  clock := id
  loader := rfl
  cfg := rfl
  pending := rfl
  values := rfl
  commits := List.prefix_rfl

theorem State.keeps.of_peers (s : State) (p : PeerMonitor)
    (own : (s.peers.table[s.own]).state = .live → (p.table[s.own]).state = .live)
    (clock : s.clockInv → ∀ t, p.clock = some t → t.valid = true) : s.keeps { s with peers := p } where
  link := id
  visits := fun h _ => h
  tickets := id
  barriers := id
  weigh := id
  zero := id
  tares := id
  orphans := id
  own := own
  clock := clock
  loader := rfl
  cfg := rfl
  pending := rfl
  values := rfl
  commits := List.prefix_rfl

theorem State.askCommit_keeps (s : State) (c : Commit) : s.keeps (s.askCommit c) where
  link := id
  visits := fun h _ => h
  tickets := id
  barriers := id
  weigh := id
  zero := id
  tares := id
  orphans := id
  own := id
  clock := id
  loader := rfl
  cfg := rfl
  pending := rfl
  values := rfl
  commits := List.prefix_append _ _

/-! ### The weighing channel (1.4, 1.7) -/

theorem WeighState.Inv.select {w : WeighState} (h : w.Inv) (c : Channel) : (w.selectChannel c).Inv :=
  ⟨h.unset, h.goods, h.faults⟩

theorem State.beginScan_keeps (s : State) : s.keeps s.beginScan := by
  unfold State.beginScan
  split
  · exact .refl s
  · exact .of_weigh s _ (fun h => ⟨h.unset, h.goods, h.faults⟩) id

theorem WeighState.Inv.monitorScan {w : WeighState} (h : w.Inv) (g : Bool) : (w.monitorScan g).Inv := by
  unfold WeighState.monitorScan
  split
  · exact ⟨h.unset, Nat.min_le_right _ _, Nat.zero_le _⟩
  · exact ⟨h.unset, Nat.zero_le _, Nat.min_le_right _ _⟩

theorem WeighState.Inv.formWeight {w : WeighState} (h : w.Inv) (c : CalRecord) (g : Bool) : (w.formWeight c g).Inv := by
  unfold WeighState.formWeight
  split <;> exact ⟨h.unset, h.goods, h.faults⟩

theorem WeighState.Inv.judge {w : WeighState} (h : w.Inv) (c : Settings) (d : Nat) : (w.judge c d).Inv := by
  unfold WeighState.judge
  split <;> exact ⟨h.unset, h.goods, h.faults⟩

/-- Stages 1 to 3 of a scan's end leave Z as it is. -/
theorem WeighState.stages_zero (w : WeighState) (c : CalRecord) (cfg : Settings) (d : Nat) (g : Bool) :
    (((w.monitorScan g).formWeight c g).judge cfg d).zero = w.zero := by
  have h (v : WeighState) : (v.judge cfg d).zero = v.zero := by unfold WeighState.judge; split <;> rfl
  have k (v : WeighState) : (v.formWeight c g).zero = v.zero := by unfold WeighState.formWeight; split <;> rfl
  rw [h, k]
  unfold WeighState.monitorScan
  split <;> rfl

theorem State.measureScan_keeps (s : State) (f : Option (Channel × CellCause)) : s.keeps (s.measureScan f) := by
  unfold State.measureScan
  refine .trans (.of_weigh s _ (fun h => ?_) fun h => ?_) (State.postIf_keeps _ _ _)
  case refine_2 => rw [State.zeroInv] at h; simpa [WeighState.stages_zero] using h
  have := (((h.monitorScan f.isNone).formWeight s.retained.cal f.isNone).judge s.cfg s.retained.cal.interval)
  exact ⟨this.unset, this.goods, this.faults⟩

theorem State.updatePresence_keeps (s : State) : s.keeps s.updatePresence := by
  unfold State.updatePresence
  split
  · exact .refl s
  · exact .trans (t := { s with deck := { s.deck with presence := s.formedPresence } })
      (.of_eq rfl rfl rfl rfl rfl rfl rfl rfl rfl rfl rfl rfl rfl) (State.postLane_keeps _ _)

theorem State.postStartFault_keeps (s : State) (e : End) : s.keeps (s.postStartFault e) := by
  unfold State.postStartFault
  split
  · exact s.postIf_keeps _ _
  · exact .refl s

theorem State.sendStartReport_keeps (s : State) : s.keeps s.sendStartReport := by
  unfold State.sendStartReport
  refine .trans (.trans (.trans ?_ (State.post_keeps _ _)) (State.postStartFault_keeps _ _)) (State.postStartFault_keeps _ _)
  exact .of_eq rfl rfl rfl rfl rfl rfl rfl rfl rfl rfl rfl rfl rfl

theorem State.takeWeightAnswer_keeps (s : State) : s.keeps s.takeWeightAnswer := by
  unfold State.takeWeightAnswer
  extract_lets d t
  have h : s.keeps t := .of_eq rfl rfl rfl rfl rfl rfl rfl rfl rfl rfl rfl rfl rfl
  split
  · exact h.trans (State.updatePresence_keeps _)
  · exact h.trans (State.sendStartReport_keeps _)

theorem State.giveCapture_keeps (s : State) : s.keeps s.giveCapture := by
  unfold State.giveCapture
  split
  · exact (s.post_keeps _).trans (State.closeCapture_moves _).keeps
  · exact .refl s

theorem WeighState.Inv.setZero {w : WeighState} (h : w.Inv) (z : Int) : (w.setZero z true).Inv :=
  ⟨fun x => by simp [WeighState.setZero] at x, h.goods, h.faults⟩

/-- A value clamped to a magnitude lies within it. -/
theorem clampMagnitude_le (m v : Int) (h : 0 ≤ m) : ((clampMagnitude m v).natAbs : Int) ≤ m := by
  unfold clampMagnitude
  split
  · omega
  · split <;> omega

theorem zeroRangeOf_nonneg (capacity : Nat) : 0 ≤ zeroRangeOf capacity := by
  unfold zeroRangeOf; omega

theorem State.zeroStep_keeps (s : State) (g : Bool) : s.keeps (s.zeroStep g) := by
  unfold State.zeroStep
  split
  · split
    · unfold State.trackZero
      dsimp only
      split
      · exact .of_weigh s _ (fun h => h.setZero _) fun _ => clampMagnitude_le _ _ (zeroRangeOf_nonneg _)
      · exact .refl s
    · unfold State.initialZero
      split
      · split
        · rename_i m
          exact .of_weigh s _ (fun h => ⟨(h.setZero _).unset, h.goods, h.faults⟩) fun _ => of_decide_eq_true m
        · exact .of_weigh s _ (fun h => ⟨h.unset, h.goods, h.faults⟩) id
      · exact .refl s
  · exact .refl s

theorem State.endScan_keeps (s : State) (f : Option (Channel × CellCause)) : s.keeps (s.endScan f) :=
  (((((s.measureScan_keeps f).trans (State.takeWeightAnswer_keeps _)).trans (State.giveCapture_keeps _)).trans
    (State.postIf_keeps _ _ _)).trans (State.zeroStep_keeps _ _)).trans (State.beginScan_keeps _)

theorem State.takeCount_keeps (s : State) (c : Channel) (n : Int) : s.keeps (s.takeCount c n) := by
  unfold State.takeCount
  split
  · exact s.endScan_keeps _
  · have h : s.keeps { s with weigh := { s.weigh with counts := s.weigh.counts ++ [(c, n)] } } :=
      .of_weigh s _ (fun h => ⟨h.unset, h.goods, h.faults⟩) id
    dsimp only
    split
    · exact h.trans (.of_weigh _ _ (fun h => h.select _) id)
    · exact h.trans (State.endScan_keeps _ _)

theorem State.testZero_keeps (s : State) : s.keeps s.testZero.1 := by
  unfold State.testZero
  split
  · exact .refl s
  · split
    · split
      · rename_i m
        exact .of_weigh s _ (fun h => ⟨(h.setZero _).unset, h.goods, h.faults⟩) fun _ => of_decide_eq_true m
      · exact .of_weigh s _ (fun h => ⟨h.unset, h.goods, h.faults⟩) id
    · exact .refl s

/-! ### The deck sensor unit -/

theorem State.keeps.of_deck (s : State) (d : DeckState) : s.keeps { s with deck := d } :=
  .of_eq rfl rfl rfl rfl rfl rfl rfl rfl rfl rfl rfl rfl rfl

theorem State.approachActivation_keeps (s : State) (e : End) : s.keeps (s.approachActivation e) := by
  unfold State.approachActivation
  split
  · exact .trans (.of_deck s _) (State.postLane_keeps _ _)
  · exact .refl s

theorem State.testApproaches_keeps (s : State) : s.keeps s.testApproaches := by
  unfold State.testApproaches
  split
  · exact s.approachActivation_keeps _
  · exact .refl s

theorem State.deckLoopEvent_keeps (s : State) : s.keeps s.deckLoopEvent := by
  unfold State.deckLoopEvent
  split
  · exact s.updatePresence_keeps
  · exact .refl s

theorem State.handActivation_keeps (s : State) (i : Input) : s.keeps (s.handActivation i) := by
  unfold State.handActivation
  split
  · exact s.approachActivation_keeps _
  · exact (s.post_keeps _).trans (State.postLane_keeps _ _)
  · exact .trans (.trans (.trans (.of_deck s _) (State.post_keeps _ _)) (State.postIf_keeps _ _ _))
      (State.postLane_keeps _ _)
  · exact s.deckLoopEvent_keeps.trans (State.postIf_keeps _ _ _)
  · exact s.post_keeps _
  · exact s.post_keeps _
  · exact s.post_keeps _
  · exact s.postLane_keeps _

theorem State.handRelease_keeps (s : State) (i : Input) : s.keeps (s.handRelease i) := by
  unfold State.handRelease
  split
  · exact s.postLane_keeps _
  · exact (s.post_keeps _).trans (State.postLane_keeps _ _)
  · exact .trans (.of_deck s _) (State.postLane_keeps _ _)
  · exact s.deckLoopEvent_keeps
  · exact s.post_keeps _
  · exact s.post_keeps _
  · exact s.post_keeps _
  · exact .refl s

/-! ### The visit table unit -/

theorem Cursor.keeps (s : State) (c : Cursor) : s.keeps { s with visits := { s.visits with cursor := c } } :=
  .of_visits s _ fun h _ => ⟨h.count, h.numbers, h.tokens, h.unmatched, h.conflicts, h.sequence, h.epoch⟩

theorem State.postAdvance_keeps (s : State) : s.keeps s.postAdvance := s.postIf_keeps _ _

theorem State.moveCursor_keeps (s : State) : s.keeps s.moveCursor := .trans (Cursor.keeps s _) (State.postAdvance_keeps _)

theorem VisitState.hasNumber_iff (v : VisitState) (n : VisitNumber) :
    v.hasNumber n = true ↔ n ∈ v.table.map (·.number) := by
  rw [VisitState.hasNumber, List.any_eq_true, List.mem_map]
  exact exists_congr fun r => and_congr_right fun _ => beq_iff_eq

theorem VisitState.hasToken_iff (v : VisitState) (t : Token) :
    v.hasToken t = true ↔ t ∈ v.table.map (·.claim.token) := by
  rw [VisitState.hasToken, List.any_eq_true, List.mem_map]
  exact exists_congr fun r => and_congr_right fun _ => beq_iff_eq

/-- A visit of a new number and a new token is added where there is room. -/
theorem VisitState.Inv.add {v : VisitState} (h : v.Inv) (r : VisitRecord) (n : v.hasNumber r.number = false)
    (t : v.hasToken r.claim.token = false) (room : v.table.length < 96) : (v.add r).Inv := by
  have hn : r.number ∉ v.table.map (·.number) := fun x => by rw [← v.hasNumber_iff] at x; simp [n] at x
  have ht : r.claim.token ∉ v.table.map (·.claim.token) := fun x => by rw [← v.hasToken_iff] at x; simp [t] at x
  refine ⟨by simp [VisitState.add]; omega, ?_, ?_, h.unmatched, h.conflicts, h.sequence, h.epoch⟩
  · simp only [VisitState.add, List.map_append, List.map_cons, List.map_nil]
    exact List.nodup_append.2 ⟨h.numbers, by simp, by rintro a ha b hb rfl; simp at hb; exact hn (hb ▸ ha)⟩
  · simp only [VisitState.add, List.map_append, List.map_cons, List.map_nil]
    exact List.nodup_append.2 ⟨h.tokens, by simp, by rintro a ha b hb rfl; simp at hb; exact ht (hb ▸ ha)⟩

/-- A visit removed leaves the rest of the table as it is. -/
theorem VisitState.Inv.erase {v : VisitState} (h : v.Inv) (i : Nat) (c : Cursor) :
    VisitState.Inv { v with table := v.table.eraseIdx i, cursor := c } := by
  have sub := List.eraseIdx_sublist v.table i
  exact ⟨Nat.le_trans sub.length_le h.count, h.numbers.sublist (sub.map _), h.tokens.sublist (sub.map _), h.unmatched,
    h.conflicts, h.sequence, h.epoch⟩

theorem State.removeVisit_keeps (s : State) (n : VisitNumber) : s.keeps (s.removeVisit n) := by
  unfold State.removeVisit
  extract_lets i table paused v t
  have h : s.keeps t := .of_visits s _ fun h _ => h.erase _ _
  refine .trans ?_ (State.post_keeps _ _)
  split
  · exact h.trans (State.postAdvance_keeps _)
  · exact h

theorem State.takeClose_keeps (s : State) (n : VisitNumber) : s.keeps (s.takeClose n) := by
  unfold State.takeClose
  split
  · exact s.removeVisit_keeps n
  · exact .of_visits s _ fun h _ => ⟨h.count, h.numbers, h.tokens, satSucc_le _, h.conflicts, h.sequence, h.epoch⟩

theorem VisitState.Inv.takeOpen {v : VisitState} (h : v.Inv) (limit : Nat) (r : VisitRecord) (l : limit ≤ 96) :
    (v.takeOpen limit r).Inv := by
  unfold VisitState.takeOpen
  split
  · exact h
  · rename_i k
    simp only [Bool.or_eq_true, decide_eq_true_eq, not_or, Bool.not_eq_true, Nat.not_le] at k
    exact h.add r k.1.1 k.1.2 (by omega)

theorem VisitState.Inv.takeAnnounce {v : VisitState} (h : v.Inv) (r : VisitRecord) : (v.takeAnnounce r).Inv := by
  unfold VisitState.takeAnnounce
  split
  · exact h
  · split
    · exact ⟨h.count, h.numbers, h.tokens, h.unmatched, satSucc_le _, h.sequence, h.epoch⟩
    · split
      · rename_i a b c
        exact h.add r (by simpa using a) (by simpa using b) c
      · exact h

theorem nextSequence_range {n : Nat} (h : 1 ≤ n ∧ n ≤ 4095) : 1 ≤ nextSequence n ∧ nextSequence n ≤ 4095 := by
  unfold nextSequence
  split <;> omega

theorem VisitState.freeSequence_range (v : VisitState) (own : Station) (fuel : Nat) :
    ∀ n, 1 ≤ n ∧ n ≤ 4095 → 1 ≤ v.freeSequence own fuel n ∧ v.freeSequence own fuel n ≤ 4095 := by
  induction fuel with
  | zero => intro n h; exact h
  | succ k ih =>
    intro n h
    unfold VisitState.freeSequence
    split
    · exact ih _ (nextSequence_range h)
    · exact h

theorem State.placeSlot_keeps (s : State) : s.keeps s.placeSlot := by
  unfold State.placeSlot
  split
  · exact .refl s
  · dsimp only
    split
    · refine .trans ?_ (State.post_keeps _ _)
      refine .trans (s.place_keeps _) (.of_visits _ _ fun h _ => ⟨h.count, h.numbers, h.tokens, h.unmatched,
        h.conflicts, ?_, h.epoch⟩)
      dsimp only
      split
      · exact nextSequence_range h.sequence
      · exact h.sequence
    · exact s.place_keeps _

theorem State.putSlot_keeps (s : State) (f : LaneFrame) (n : Bool) : s.keeps (s.putSlot f n) :=
  (State.keeps.of_visits s { s.visits with slot := some ⟨f, n⟩ } fun h _ => ⟨h.count, h.numbers, h.tokens, h.unmatched,
    h.conflicts, h.sequence, h.epoch⟩).trans (State.placeSlot_keeps _)

theorem State.copyClaimNumber_keeps (s : State) (n : VisitNumber) : s.keeps (s.copyClaimNumber n) := by
  unfold State.copyClaimNumber
  split
  · exact (State.movesLane.of_lane s { s.lane with record := { s.lane.record with visitRef := some n } } id rfl).keeps
  · exact .refl s

theorem State.announce_keeps (s : State) (r : VisitRecord) : s.keeps (s.announce r) := by
  unfold State.announce
  dsimp only
  split
  · exact (s.place_keeps _).trans (State.moveCursor_keeps _)
  · exact Cursor.keeps s _

theorem State.advanceCursor_keeps (s : State) : s.keeps s.advanceCursor := by
  unfold State.advanceCursor
  split
  · exact Cursor.keeps s _
  · split
    · exact s.announce_keeps _
    · exact s.moveCursor_keeps

/-! ### The tare and tariff store -/

theorem TareStore.drop_le (t : TareStore) (token : Token) : (t.drop token).tares.length ≤ t.tares.length :=
  List.length_filter_le _ _

theorem TareStore.store_length (t : TareStore) (r : TareRecord) (h : t.tares.length ≤ 64) :
    (t.store r).tares.length ≤ 64 := by
  unfold TareStore.store
  split
  · rename_i k
    obtain ⟨q, hq⟩ := Option.isSome_iff_exists.1 k
    have := TareStore.drop_length hq
    simp only [List.length_append, List.length_singleton]
    omega
  · split
    · rename_i k
      simp only [maxTares] at k
      simp only [List.length_append, List.length_singleton]
      omega
    · rename_i k
      simp only [maxTares] at k
      simp only [List.length_append, List.length_singleton, List.length_drop]
      omega

/-! ### The ticket unit -/

theorem changeFirst_length (p : TicketEntry → Bool) (f : TicketEntry → TicketEntry) (l : List TicketEntry) :
    (changeFirst p f l).length = l.length := by
  induction l with
  | nil => rfl
  | cons e es ih =>
    unfold changeFirst
    split <;> simp [ih]

theorem State.sendPrinter_keeps (s : State) (m : PrinterMessage) : s.keeps (s.sendPrinter m) :=
  .of_eq rfl rfl rfl rfl rfl rfl rfl rfl rfl rfl rfl rfl rfl

theorem State.stopAnswerLimit_keeps (s : State) : s.keeps s.stopAnswerLimit := .of_tickets s _ id
theorem State.startAnswerLimit_keeps (s : State) : s.keeps s.startAnswerLimit := .of_tickets s _ id

theorem State.tryPrint_keeps (s : State) : s.keeps s.tryPrint := by
  unfold State.tryPrint
  split
  · split
    · exact .refl s
    · refine .trans (.trans (.of_tickets s _ fun h => ?_) (State.sendPrinter_keeps _ _)) (State.startAnswerLimit_keeps _)
      simpa [TicketState.placesTaken, changeFirst_length] using h
  · exact .refl s

theorem State.placeOldestCopy_keeps (s : State) : s.keeps s.placeOldestCopy := by
  unfold State.placeOldestCopy
  split
  · exact .refl s
  · dsimp only
    split
    · refine (s.place_keeps _).trans (.of_tickets _ _ fun h => ?_)
      simpa [TicketState.placesTaken, changeFirst_length] using h
    · exact s.place_keeps _

/-- Placing a copy changes neither the number of entries nor the commit that runs. -/
theorem State.placeOldestCopy_places (s : State) : s.placeOldestCopy.tickets.placesTaken = s.tickets.placesTaken := by
  unfold State.placeOldestCopy
  split
  · rfl
  · rename_i e he
    obtain ⟨l, hl, -⟩ := s.place_shape (ticketCopyFrame e.ticket)
    dsimp only
    split
    · rw [hl]; simp [TicketState.placesTaken, changeFirst_length]
    · rw [hl]

/-- An entry takes one place of the queue, whose other fields are kept. -/
theorem State.enterQueue_places (s : State) (t : TicketRecord) :
    (s.enterQueue t).tickets.placesTaken = s.tickets.placesTaken + 1 := by
  unfold State.enterQueue
  dsimp only
  split
  · rw [State.placeOldestCopy_places]; simp [TicketState.placesTaken]; omega
  · simp [TicketState.placesTaken]; omega

theorem State.workOnce_keeps (s : State) : s.keeps s.workOnce := by
  unfold State.workOnce
  split
  · exact .refl s
  · split
    · exact .refl s
    · rename_i k
      simp only [Bool.or_eq_true, not_or, Bool.not_eq_true, Option.isSome_eq_false_iff,
        Option.isNone_iff_eq_none, ticketPlaces] at k
      split
      · exact .trans (.of_tickets s _ fun h => by simpa [TicketState.placesTaken] using h) (State.post_keeps _ _)
      · refine .trans (.of_tickets s _ fun h => ?_) (State.askCommit_keeps _ _)
        have := k.2
        simp only [TicketState.placesTaken, k.1] at this ⊢
        simp at this ⊢
        omega

theorem State.workIssue_keeps (s : State) : s.keeps s.workIssue := s.workOnce_keeps.trans (State.workOnce_keeps _)

theorem State.leaveQueue_keeps (s : State) : s.keeps s.leaveQueue := by
  unfold State.leaveQueue
  refine .trans (.of_tickets s _ fun h => ?_) (State.workIssue_keeps _)
  have := (List.dropWhile_sublist TicketEntry.isDone (l := s.tickets.queue)).length_le
  simp only [TicketState.placesTaken] at h ⊢
  omega

theorem State.setPrinter_keeps (s : State) (p : PrinterState) : s.keeps (s.setPrinter p) := by
  unfold State.setPrinter
  split
  · exact .refl s
  · exact .trans (.of_tickets s { s.tickets with printer := p } id) (State.post_keeps _ _)

theorem State.endPrinting_keeps (s : State) (p : PrintState) : s.keeps (s.endPrinting p) :=
  .of_tickets s _ fun h => by simpa [TicketState.placesTaken, changeFirst_length] using h

theorem State.printerToReady_keeps (s : State) : s.keeps s.printerToReady :=
  ((s.setPrinter_keeps _).trans (State.stopAnswerLimit_keeps _)).trans (State.tryPrint_keeps _)

theorem State.printFailed_keeps (s : State) (p : PrinterState) : s.keeps (s.printFailed p) :=
  ((s.endPrinting_keeps _).trans (State.setPrinter_keeps _ _)).trans (State.startAnswerLimit_keeps _)

theorem State.printerTrouble_keeps (s : State) (p : PrinterState) : s.keeps (s.printerTrouble p) := by
  unfold State.printerTrouble
  split
  · split
    · exact s.printFailed_keeps p
    · exact (s.setPrinter_keeps p).trans (State.startAnswerLimit_keeps _)
  · exact s.setPrinter_keeps p

/-! ### The link controller -/

theorem State.keeps.of_link (s : State) (l : LinkState) (h : s.link.Inv → l.Inv) : s.keeps { s with link := l } :=
  (State.movesLane.of_link ⟨l, rfl, h⟩).keeps

theorem LinkState.Inv.line {l : LinkState} (h : l.Inv) (p : Fin 16) (t : Option InTransmission) (f b e : Bool) :
    LinkState.Inv { l with pointer := p, tx := t, lineFree := f, begun := b, hearing := e } :=
  ⟨h.urgent, h.visit, h.routine, h.bulk, h.badCheck, h.drops, h.malformed, h.statusDiscards, h.helpLost⟩

theorem LinkState.Inv.queueOk {l : LinkState} (h : l.Inv) (q : QueueName) : (l.queue q).ok q.depth := by
  cases q
  · exact h.urgent
  · exact h.visit
  · exact h.routine
  · exact h.bulk

theorem LinkState.Inv.setQueue {l : LinkState} (h : l.Inv) (q : QueueName) (t : TxQueue) (k : t.ok q.depth) :
    (l.setQueue q t).Inv := by
  cases q
  · exact ⟨k, h.visit, h.routine, h.bulk, h.badCheck, h.drops, h.malformed, h.statusDiscards, h.helpLost⟩
  · exact ⟨h.urgent, k, h.routine, h.bulk, h.badCheck, h.drops, h.malformed, h.statusDiscards, h.helpLost⟩
  · exact ⟨h.urgent, h.visit, k, h.bulk, h.badCheck, h.drops, h.malformed, h.statusDiscards, h.helpLost⟩
  · exact ⟨h.urgent, h.visit, h.routine, k, h.badCheck, h.drops, h.malformed, h.statusDiscards, h.helpLost⟩

theorem LinkState.Inv.depart {l : LinkState} (h : l.Inv) (q : QueueName) : (l.depart q).Inv := by
  have k := h.setQueue q { frames := (l.queue q).frames.drop 1, attempts := 0 }
    ⟨by have := (h.queueOk q).1; simp; omega, by simp⟩
  exact ⟨k.urgent, k.visit, k.routine, k.bulk, k.badCheck, k.drops, k.malformed, k.statusDiscards, k.helpLost⟩

theorem State.tryStart_keeps (s : State) : s.keeps s.tryStart := (State.movesLane.of_link s.tryStart_shape).keeps

theorem State.tellDeparture_keeps (s : State) (q : QueueName) : s.keeps (s.tellDeparture q) := by
  cases q
  · exact .refl s
  · exact s.post_keeps _
  · exact s.post_keeps _
  · exact s.post_keeps _

theorem State.tellDrop_keeps (s : State) (f : Frame) : s.keeps (s.tellDrop f) := by
  unfold State.tellDrop
  split
  · exact s.post_keeps _
  · exact s.post_keeps _
  · exact .refl s

theorem State.failAttempt_keeps (s : State) (t : InTransmission) : s.keeps (s.failAttempt t) := by
  unfold State.failAttempt
  extract_lets attempts
  split
  · rename_i k
    refine .of_link s _ fun h => ?_
    have := h.setQueue t.queue { s.link.queue t.queue with attempts := attempts }
      ⟨(h.queueOk t.queue).1, by simpa [maxAttempts] using k⟩
    exact ⟨this.urgent, this.visit, this.routine, this.bulk, this.badCheck, this.drops, this.malformed,
      this.statusDiscards, this.helpLost⟩
  · refine .trans (.trans (.of_link s _ fun h => ?_) (State.tellDrop_keeps _ _)) (State.tellDeparture_keeps _ _)
    have := h.depart t.queue
    exact ⟨this.urgent, this.visit, this.routine, this.bulk, this.badCheck, satSucc_le _, this.malformed,
      this.statusDiscards, this.helpLost⟩

theorem State.handOwnFrame_keeps (s : State) (f : Frame) : s.keeps (s.handOwnFrame f) := by
  unfold State.handOwnFrame
  split
  · exact s.post_keeps _
  · exact s.post_keeps _
  · exact s.post_keeps _
  · exact .refl s

theorem State.deliver_keeps (s : State) (t : InTransmission) : s.keeps (s.deliver t) :=
  .trans (.trans (.of_link s _ fun h => h.depart t.queue) (State.handOwnFrame_keeps _ _)) (State.tellDeparture_keeps _ _)

theorem State.handFrame_keeps (s : State) (k : FrameKind) (f : HeardFrame) : s.keeps (s.handFrame k f) := by
  unfold State.handFrame
  split
  · exact .refl s
  · exact (State.movesLane.of_posted s _).keeps

theorem State.takeHeard_keeps (s : State) (f : HeardFrame) : s.keeps (s.takeHeard f) := by
  unfold State.takeHeard
  split
  · exact .refl s
  · exact .of_link s _ fun h => ⟨h.urgent, h.visit, h.routine, h.bulk, satSucc_le _, h.drops, h.malformed,
      h.statusDiscards, h.helpLost⟩
  · exact s.countMalformed_keeps
  · exact s.handFrame_keeps _ _

/-! ### The calibration store -/

theorem State.keeps.of_cal (s : State) (c : CalState) : s.keeps { s with cal := c } :=
  .of_eq rfl rfl rfl rfl rfl rfl rfl rfl rfl rfl rfl rfl rfl

theorem State.answer_keeps (s : State) (c : ServiceCode) (b : List Byte) : s.keeps (s.answer c b) :=
  .of_eq rfl rfl rfl rfl rfl rfl rfl rfl rfl rfl rfl rfl rfl

theorem State.handNotice_keeps (s : State) (n : CalNotice) : s.keeps (s.handNotice n) :=
  .trans (s.place_keeps _) (.of_cal _ _)

theorem State.handWaitingNotice_keeps (s : State) : s.keeps s.handWaitingNotice := by
  unfold State.handWaitingNotice
  split
  · exact s.handNotice_keeps _
  · exact .refl s

theorem State.unlessHeld_keeps (s : State) (l : Bool) (f : State → State) (h : ∀ t : State, t.keeps (f t)) :
    s.keeps (s.unlessHeld l f) := by
  unfold State.unlessHeld
  split
  · exact s.answer_keeps _ _
  · split
    · exact s.answer_keeps _ _
    · exact h s

theorem State.commitRequest_keeps (s : State) (r : CalRequest) (w : CalWrite) : s.keeps (s.commitRequest r w) :=
  .trans (.of_cal s _) (State.askCommit_keeps _ _)

theorem State.startMeasuring_keeps (s : State) (r : CalRequest) : s.keeps (s.startMeasuring r) :=
  .of_eq rfl rfl rfl rfl rfl rfl rfl rfl rfl rfl rfl rfl rfl

theorem State.askHold_keeps (s : State) (r : CalRequest) : s.keeps (s.askHold r) := by
  unfold State.askHold
  split
  · exact s.startMeasuring_keeps r
  · exact .trans (.of_cal s _) (State.post_keeps _ _)

theorem State.endMeasurement_keeps (s : State) (c : ServiceCode) : s.keeps (s.endMeasurement c) :=
  .trans (.trans (.of_cal s _) (State.postIf_keeps _ _ _)) (State.answer_keeps _ _ _)

theorem State.completeMeasurement_keeps (s : State) (h : CalInHand) : s.keeps (s.completeMeasurement h) := by
  unfold State.completeMeasurement
  extract_lets c t
  have k : s.keeps t := .of_cal s _
  split
  · split
    · exact k.trans (State.askCommit_keeps _ _)
    · exact k.trans (State.endMeasurement_keeps _ _)
  · exact k.trans (State.askCommit_keeps _ _)

theorem State.measureTakes_keeps (s : State) (h : CalInHand) (c : CalSample) : s.keeps (s.measureTakes h c) := by
  unfold State.measureTakes
  split
  · exact s.endMeasurement_keeps _
  · dsimp only
    split
    · exact s.completeMeasurement_keeps _
    · exact .of_cal s _

/-! ### What a case analysis over the commands asks for -/

theorem State.keeps.ite {s a b : State} {c : Prop} [Decidable c] (h : s.keeps a) (k : s.keeps b) :
    s.keeps (if c then a else b) := by
  split <;> assumption

/-- An entry of the peer table replaced leaves the own entry LIVE, where the own entry stays LIVE. -/
theorem PeerMonitor.setPeer_own {s : State} (n : Station) (p : Peer)
    (hp : n = s.own → (s.peers.table[s.own]).state = .live → p.state = .live)
    (h : (s.peers.table[s.own]).state = .live) : ((s.peers.setPeer n p).table[s.own]).state = .live := by
  unfold PeerMonitor.setPeer
  dsimp only
  by_cases e : n = s.own
  · subst e; simp [hp rfl h]
  · have : (s.peers.table.set n p)[s.own] = s.peers.table[s.own] := by
      simp only [Fin.getElem_fin]; rw [Vector.getElem_set_ne]; intro x; exact e (Fin.ext x)
    rw [this]; exact h

/-- A depot time one second on lies in its range. -/
theorem DepotTime.valid_on (t : DepotTime) (h : t.valid = true) : (clockSecondOn t).valid = true := by
  simp [DepotTime.valid, clockSecondOn] at h ⊢; split <;> simp <;> omega

/-- The number some bytes spell fits in them. -/
theorem fromBe_lt : ∀ (bs : List Byte), fromBe bs < 256 ^ bs.length := by
  intro bs
  induction bs using List.reverseRecOn with
  | nil => simp [fromBe]
  | append_singleton l b ih =>
    simp [fromBe] at ih ⊢
    have := b.isLt
    rw [pow_succ]; omega

/-- A BACK or PASS held changes no more than a lane operation may. -/
theorem State.hold_moves (t : State) (c : HeldCommand) : t.movesLane (t.hold c) := by
  unfold State.hold
  extract_lets u
  have : t.movesLane u := by
    simp only [u]
    split
    · exact .trans (t.withRecord_moves _) (.trans (State.recordCommand_moves _ _ _) (State.report_moves _))
    · exact .refl t
  exact .trans (this.trans (State.withRecord_moves _ _)) (.trans (State.recordCommand_moves _ _ _) (State.report_moves _))

end Sys2Proof.Machine
end

