-- ==== Sys2Proof/WellFormed.lean ====
section
/-! DEFINITION. The commands whose operands some sender can give: every number in its range, every frame and
argument of the one length of its kind. Line messages of any bytes are well formed, since the lines carry them
(R190 says what the station does with them). -/

namespace Sys2Proof

/-- A message of exactly this length. -/
def hasLength (n : Nat) (bs : List Byte) : Bool := bs.length == n

/-- A station number 1 to 15 (R90, R164). -/
def stationOk (n : Station) : Bool := n != 0

/-- A capture in its range (R122). -/
def captureOk (weight : Nat) : Bool := minCapture ≤ weight && weight ≤ maxCapture

/-- A ticket number 1 to 99,999,999 in a QUEUED answer (R128). -/
def ticketResultOk : TicketResult → Bool
  | .queued n => 1 ≤ n && n ≤ 99999999
  | .refused => true

/-- A frame of the lane frame slot with its fields in range (R104). -/
def laneFrameOk : LaneFrame → Bool
  | .openFrame v => v.valid
  | .closeFrame n => n.valid

/-- A weighing on a ticket (R128). -/
def weighingOk (w : Weighing) : Bool :=
  captureOk w.weight && (w.time.map DepotTime.valid).getD true && stationOk w.station

/-- The values an issue hands on: the outbound part with TWO-PASS and the tare copy with STORED-TARE only (R128). -/
def issueOk (r : IssueRequest) : Bool :=
  r.visit.valid && tokenValid r.token && r.rate ≤ maxRate && weighingOk r.inbound && r.net ≤ maxCapture &&
    r.charge ≤ 80449920 &&
    (match r.kind with
      | .twoPass => (r.outbound.map weighingOk).getD false && r.tare == none
      | .storedTare => r.outbound == none && (r.tare.map (fun t => decide (t ≤ maxTare))).getD false)

/-- A frame heard whole has the payload that its length byte gives (R143). -/
def heardOk (f : HeardFrame) : Bool := f.ending != .whole || f.payload.length == f.length.toNat

/-- The raw counts of a GOOD scan lie inside the extremes (R3). -/
def sampleOk : CalSample → Bool
  | .cellFault => true
  | .good counts _ => counts.all (fun p => decide (-8388608 < p.2) && decide (p.2 < 8388607))

/-- The command's operands are such as a sender can give. -/
def Instr.wellFormed : Instr → Bool
  | .reset _ _ _ => true
  | .bootCountCommitDone => true
  | .configByte _ => true
  | .configByteTimeout => true
  | .firstScan => true
  | .firstSample => true
  | .calStartCheck => true
  | .enterJoining => true
  | .printerLimitStart => true
  | .sample _ => true
  | .channelAnswerLimitExpiry => true
  | .windowEmptyBeam => true
  | .zeroTest => true
  | .rawInputChange _ _ => true
  | .debounceExpiry _ => true
  | .ready => true
  | .calHold => true
  | .upLimitActivation _ => true
  | .downLimitActivation _ => true
  | .limitRelease _ _ => true
  | .barrierSafetyActivation _ => true
  | .barrierSafetyRelease _ => true
  | .motorFaultActivation _ => true
  | .motorFaultRelease _ => true
  | .travelTimerExpiry _ => true
  | .barrierReset _ argument => hasLength 8 argument
  | .flashTick => true
  | .laneStartReport _ _ _ => true
  | .laneApproachOffer _ _ => true
  | .idWaitExpiry => true
  | .readerMessage _ => true
  | .lanePresenceChanged _ => true
  | .laneSafetyLoopEvent _ _ => true
  | .laneBeamEvent _ _ => true
  | .laneBarrierArrival _ _ => true
  | .laneBarrierFault _ _ => true
  | .capture weight => captureOk weight
  | .laneConverterFailed => true
  | .stabilityLimitExpiry => true
  | .stationActive => true
  | .laneFramePlaced _ number => number.valid
  | .claimOutcome number _ => number.valid
  | .closeOutcome number _ => number.valid
  | .removalReport number => number.valid
  | .ticketAnswer number result => number.valid && ticketResultOk result
  | .lanePrinterState _ => true
  | .clearDeckLimitExpiry => true
  | .laneHelpPress => true
  | .calHoldRequest => true
  | .calHoldRelease => true
  | .token _ argument => hasLength 8 argument
  | .category _ argument => hasLength 8 argument
  | .retry _ argument => hasLength 8 argument
  | .pass _ argument => hasLength 8 argument
  | .back _ argument => hasLength 8 argument
  | .zero _ argument => hasLength 8 argument
  | .raise _ argument => hasLength 8 argument
  | .lower _ argument => hasLength 8 argument
  | .helpAck _ argument => hasLength 8 argument
  | .reprint _ argument => hasLength 8 argument
  | .visitOpen source payload => stationOk source && hasLength 27 payload
  | .visitClose source payload => stationOk source && hasLength 3 payload
  | .visitVoid payload => hasLength 3 payload
  | .visitAnnounce payload => hasLength 27 payload
  | .claimRequest claim => claim.valid
  | .reclaim frame => laneFrameOk frame
  | .closeRequest number => number.valid
  | .frameWithdraw => true
  | .lookup t => tokenValid t
  | .visitQueueDeparture => true
  | .cursorEnable => true
  | .cursorStart joiner => stationOk joiner
  | .cursorAdvance => true
  | .tareSet payload => hasLength 14 payload
  | .tareDrop payload => hasLength 8 payload
  | .tariffSet payload => hasLength 4 payload
  | .categoryResolution t _ => tokenValid t
  | .closedQuestion _ => true
  | .kindRequest t _ => tokenValid t
  | .issue request => issueOk request
  | .issueWithdraw number => number.valid
  | .ticketCommitDone => true
  | .bulkQueueDeparture => true
  | .printerReady => true
  | .printerDone => true
  | .printerBusy => true
  | .printerPaperOut => true
  | .printerFault => true
  | .printerAnswerLimitExpiry => true
  | .lineFree => true
  | .frameStartHeard => true
  | .arbitrationLost => true
  | .readbackMismatch => true
  | .delivery => true
  | .frameEnd frame => heardOk frame
  | .peerHeard _ => true
  | .hello _ payload => hasLength 5 payload
  | .presence _ payload => hasLength 21 payload
  | .timeSet payload => hasLength 5 payload
  | .joinWindowExpiry => true
  | .heartbeatExpiry => true
  | .peerTick => true
  | .clockTick => true
  | .calRead => true
  | .status => true
  | .calZero => true
  | .calSpan _ => true
  | .calCorner _ _ => true
  | .calInterval _ _ => true
  | .calLock => true
  | .calErase => true
  | .calScan c => sampleOk c
  | .calInterrupt _ => true
  | .calCommitDone => true
  | .routineQueueDeparture => true
  | .nearApproachRelease _ => true
  | .badServiceRequest => true

end Sys2Proof
end

