-- ==== Sys2Proof/Tests/Slice0.lean ====
section
/-! SUPPORT. Tests: the checks of WellFormed, figures that the spec works out, one step of some commands, and for each
statement with hypotheses a state and operands that meet them. -/

namespace Sys2Proof.Tests

open Sys2Proof Sys2Proof.Machine

/-! ### States and operands to test on -/

/-- Station 4, BOTH, ACTIVE, with everything started and the lane in IDLE. -/
def base : State :=
  { State.reset with
    loader := { station := 4, role := .both, phase := .inForce }
    retained := {}
    deck := { sampled := true, reportSent := true }
    lane := { reported := true }
    link := { begun := true }
    peers := {
      station := .active, ticking := true, heartbeat := some 2, joinWindow := some 3
      table := (Vector.replicate 16 ({} : Peer)).set 4 { state := .live } } }

/-- `base` with the lane in a state, with a record. -/
def inLane (l : LaneState) (r : TxnRecord := {}) : State := { base with lane := { base.lane with state := l, record := r } }

/-- `base` with some field inputs active. -/
def withActive (is : List Input) (s : State := base) : State :=
  { s with deck := { s.deck with debounced := is.foldl (fun v i => v.set i.index true) s.deck.debounced } }

/-- `base` with the barrier of end A in a state. -/
def withBarrier (b : BarrierState) (s : State := base) : State := { s with barrierA := { s.barrierA with state := b } }

def token1 : Token := chars "AB12"
def number1 : VisitNumber := ⟨4, 17, 52⟩
def claim1 : Claim :=
  { token := token1, kind := .twoPass, category := 3, rate := 9500, weight := 25020, time := some ⟨412, 3600⟩
    tare := none, manual := false }
def visit1 : VisitRecord := ⟨number1, claim1⟩
def stored1 : VisitRecord := ⟨number1, { claim1 with kind := .storedTare, tare := some 11200 }⟩

/-- `base` with one visit in the table. -/
def withVisit (v : VisitRecord) (s : State := base) : State := { s with visits := { s.visits with table := [v] } }

/-- `base` with category 3 open at 9,500 cents a tonne. -/
def withRate (s : State := base) : State :=
  { s with store := { s.store with tariff := s.store.tariff.set 3 (some 9500) } }

/-- A transmit queue of `n` frames. -/
def filled (k : FrameKind) (n : Nat) : TxQueue := { frames := List.replicate n ⟨k, []⟩ }

/-- An argument of a LANE-COMMAND: its first byte. -/
def argument1 (b : Byte) : List Byte := b :: List.replicate 7 0#8

def tokenArgument : List Byte := tokenBytes (some token1)

def record1 : TxnRecord :=
  { near := some .a, direction := some .inbound, token := some token1, category := some 3, kind := some .twoPass
    rate := some 9500, capture := some (25020, none), visitRef := some number1 }

def issue1 : IssueRequest :=
  { visit := number1, token := token1, manual := false, kind := .twoPass, category := 3, rate := 9500
    inbound := ⟨25020, none, 2⟩, outbound := some ⟨11340, none, 4⟩, tare := none, net := 13680, load := .delivery
    charge := 129960, belowMin := false, tareOver := false }

def ticket1 : TicketRecord := newTicket 1 4 false issue1

/-! ### WellFormed: an ill-formed term for each check -/

theorem test_wf_capture : (Instr.capture 99).wellFormed = false ∧ (Instr.capture 80451).wellFormed = false ∧
    (Instr.capture 100).wellFormed = true := by decide
theorem test_wf_number : (Instr.removalReport ⟨0, 1, 1⟩).wellFormed = false ∧
    (Instr.removalReport ⟨1, 256, 1⟩).wellFormed = false ∧ (Instr.removalReport ⟨1, 1, 0⟩).wellFormed = false ∧
    (Instr.removalReport ⟨1, 1, 4096⟩).wellFormed = false ∧ (Instr.removalReport number1).wellFormed = true := by decide
theorem test_wf_ticket_result : (Instr.ticketAnswer number1 (.queued 0)).wellFormed = false ∧
    (Instr.ticketAnswer number1 (.queued 100000000)).wellFormed = false := by decide
theorem test_wf_lengths : (Instr.token 4#8 []).wellFormed = false ∧ (Instr.visitOpen 2 []).wellFormed = false ∧
    (Instr.visitClose 2 []).wellFormed = false ∧ (Instr.visitVoid []).wellFormed = false ∧
    (Instr.visitAnnounce []).wellFormed = false ∧ (Instr.tareSet []).wellFormed = false ∧
    (Instr.tareDrop []).wellFormed = false ∧ (Instr.tariffSet []).wellFormed = false ∧
    (Instr.hello 2 []).wellFormed = false ∧ (Instr.presence 2 []).wellFormed = false ∧
    (Instr.timeSet []).wellFormed = false := by decide
theorem test_wf_station : (Instr.cursorStart 0).wellFormed = false ∧
    (Instr.visitOpen 0 (visitRecordBytes visit1)).wellFormed = false := by decide
theorem test_wf_token : (Instr.lookup []).wellFormed = false ∧ (Instr.lookup (chars "ab")).wellFormed = false ∧
    (Instr.lookup (chars "ABCDEFGHI")).wellFormed = false ∧ (Instr.lookup token1).wellFormed = true := by decide
theorem test_wf_claim : (Instr.claimRequest { claim1 with rate := 1000000 }).wellFormed = false ∧
    (Instr.claimRequest { claim1 with tare := some 0 }).wellFormed = false ∧
    (Instr.claimRequest { claim1 with time := some ⟨412, 86400⟩ }).wellFormed = false ∧
    (Instr.claimRequest claim1).wellFormed = true := by decide
theorem test_wf_lane_frame : (Instr.reclaim (.openFrame ⟨⟨0, 1, 1⟩, claim1⟩)).wellFormed = false ∧
    (Instr.reclaim (.closeFrame ⟨0, 1, 1⟩)).wellFormed = false := by decide
theorem test_wf_issue : (Instr.issue { issue1 with tare := some 1 }).wellFormed = false ∧
    (Instr.issue { issue1 with charge := 80449921 }).wellFormed = false ∧
    (Instr.issue issue1).wellFormed = true := by decide
theorem test_wf_heard : (Instr.frameEnd ⟨7#10, 9#8, [], 0#16, .whole⟩).wellFormed = false := by decide
theorem test_wf_sample : (Instr.calScan (.good [(0, 8388607)] 0)).wellFormed = false := by decide

/-! ### Figures of the spec -/

set_option maxRecDepth 4000 in
/-- The check of "123456789" with the polynomial, the starting value and no final inversion of R190 is 29B1h, the
published figure of that CRC. -/
theorem test_crc : crc16 (chars "123456789") = 0x29B1#16 := by decide
/-- R142: a VISIT-OPEN from station 2 is 290, a HELP from station 7 is 7. -/
theorem test_identifiers : kindOfCode (290 / 16 % 16) = some .visitOpen ∧ 290 / 256 = FrameKind.visitOpen.queue.priority ∧
    kindOfCode (7 / 16 % 16) = some .help ∧ 7 / 256 = FrameKind.help.queue.priority := by decide
/-- R8 and R9, their tables with d = 20 and Max = 60,000. -/
theorem test_weights : displayedWeight 20 9999 = 0 ∧ displayedWeight 20 10000 = 20 ∧ displayedWeight 20 (-10000) = -20 ∧
    displayedWeight 20 25013004 = 25020 ∧
    statusOf 20 60000 (displayedWeight 20 60189999) = .valid 60180 ∧
    statusOf 20 60000 (displayedWeight 20 60190000) = .overload ∧
    statusOf 20 60000 (displayedWeight 20 (-409999)) = .valid (-400) ∧
    statusOf 20 60000 (displayedWeight 20 (-410000)) = .underzero := by decide
/-- R126: 66,007.5 cents is charged 66,008; the largest charges. -/
theorem test_charges : chargeOf 8801 7500 = 66008 ∧ chargeOf 80000 999999 = 79999920 ∧
    chargeOf 80450 999999 = 80449920 := by decide
/-- R125: against a tare copy of 11,200 kg with d = 20 and tolerance 10. -/
theorem test_exit_check : exitCheck 10 20 11340 11200 = true ∧ exitCheck 10 20 11000 11200 = true ∧
    exitCheck 10 20 11420 11200 = false ∧ exitCheck 10 20 10960 11200 = false := by decide
/-- R179: S for 20,000 kg with A_avg = 3,333,333, 9,998 and 12,000. -/
theorem test_span : newSpan 20000 (3333333 * 16) = some 393216 ∧ newSpan 20000 (9998 * 16) = none ∧
    newSpan 20000 (12000 * 16) = none := by decide
/-- R170: the table of the clock. -/
theorem test_clock : clockSecondOn ⟨412, 86399⟩ = ⟨413, 0⟩ ∧ clockSecondOn ⟨65535, 86399⟩ = ⟨0, 0⟩ ∧
    clockAfterSet [0#8, 0#8, 0x01#8, 0x51#8, 0x80#8] (some ⟨0, 0⟩) = some ⟨0, 0⟩ := by decide
/-- R91 and R190: visit 4-17-0052 on its 3 bytes: opener 4, epoch 11h, sequence 034h. -/
theorem test_visit_number : visitNumberBytes number1 = [0x41#8, 0x10#8, 0x34#8] ∧
    decodeVisitNumber [0x41#8, 0x10#8, 0x34#8] = some number1 ∧ decodeVisitNumber [0#8, 0#8, 0#8] = none := by decide
/-- The payload of a record decodes to it, with every absent field and with none. -/
theorem test_record_payload : decodeVisitRecord (visitRecordBytes visit1) = some visit1 ∧
    decodeVisitRecord (visitRecordBytes stored1) = some stored1 ∧
    decodeVisitRecord (visitRecordBytes ⟨⟨15, 255, 4095⟩, { claim1 with time := none, manual := true }⟩) =
      some ⟨⟨15, 255, 4095⟩, { claim1 with time := none, manual := true }⟩ := by decide
/-- R190: a 00h followed by a character is out of range, and so is a small letter. -/
theorem test_tokens : decodeToken [0x41#8, 0#8, 0x42#8, 0#8, 0#8, 0#8, 0#8, 0#8] = none ∧
    decodeToken (List.replicate 8 0x61#8) = none ∧ decodeToken tokenArgument = some token1 := by decide
/-- R92: the sequence goes from 4,095 to 1. -/
theorem test_sequence : nextSequence 4095 = 1 ∧ nextSequence 1 = 2 := by decide
/-- R156: the default table, and R189: a table that names no VISIT phase is replaced. -/
theorem test_phases : (settingsOfImage []).phaseTable = defaultPhaseTable ∧ (settingsOfImage []).phaseFromImage = false := by
  decide

/-! ### One step -/

theorem test_reset_decodes_nothing : decodeTableWord 16 0xFFFF = none := by decide
/-- From reset the boot count commit gives boot count 1 and epoch 1 (R186, R91). -/
theorem test_boot : (match step { State.reset with pending := [.bootCountCommitDone] } with
    | .next t => t.retained.bootCount == 1 && t.visits.epoch == 1 && t.loader.phase == .reading && t.pending == []
    | _ => false) = true := by decide
/-- R171, and log 42 for the station that is not OFFLINE. -/
theorem test_reset_station_state :
    (match exec (.reset 4 2 false) State.reset, exec (.reset 4 3 false) State.reset with
      | .next t, .next u => t.peers.station == .joining && (t.peers.table[4]).reportedActive == some false &&
          u.peers.station == .offline && (u.peers.table[4]).reportedActive == none && (u.peers.table[4]).state == .live
      | _, _ => false) = true := by decide

/-- On an empty queue with nothing given the station idles (log 1). -/
theorem test_idle : step State.reset = .next State.reset := rfl
/-- The oldest event given is taken where no command waits (log 1). -/
theorem test_posted : (match step { base with posted := [.event .ready, .event .calHold] } with
    | .next t => t.deck.choice == .opened && t.posted == [.event .calHold]
    | _ => false) = true := by decide
/-- A token in APPROACH raises the near barrier and enters BOARDING (R64). -/
theorem test_reader : (match exec (.readerMessage (tokenArgument ++ [0xFF#8])) (inLane .approach record1) with
    | .next t => t.lane.state == .boarding && t.barrierA.state == .rising && t.barrierA.greenRequest == .on
    | _ => false) = true := by decide
/-- An own VISIT-OPEN is ADMITTED, and its outcome given (R95, R96). -/
theorem test_visit_open : (match exec (.visitOpen 4 (visitRecordBytes visit1)) base with
    | .next t => t.visits.table == [visit1] && t.posted == [.event (.claimOutcome number1 .admitted)]
    | _ => false) = true := by decide

/-! ### Hypotheses: for each statement that has them, a state and operands that meet them, clause by clause -/

theorem test_hyp_step : ({ base with posted := [.event .ready] } : State).pending = [] ∧
    ({ base with posted := [.unknownCommand 4#8 12#8] } : State).pending = [] ∧ base.posted = [] := by decide

theorem test_hyp_reset : (∃ rest, State.reset.retained.commits = .bootCount 1 :: rest) ∧ base.retained.commits = [] :=
  ⟨⟨[], rfl⟩, rfl⟩

theorem test_hyp_writers : (∃ t, exec .ready base = .next t) ∧ base.loader.phase = .inForce := ⟨⟨_, rfl⟩, rfl⟩

/-- An image of 113 zero bytes. -/
def zeros : List Byte := List.replicate 113 0#8

/-- A loader that has read some bytes. -/
def reading (image : List Byte) : State :=
  { State.reset with loader := { phase := .reading, image := image, byteLimit := some 10 } }

theorem test_hyp_config : State.reset.retained.commits = [.bootCount 1] ∧ (reading []).loader.phase = .reading ∧
    ([] ++ [0#8] : List Byte).length ≠ 115 ∧ ((zeros ++ [0#8]) ++ [0#8]).length = 115 := by decide
/-- An image whose last byte is this much more than that of its check. -/
def imageWith (extra : Byte) : List Byte :=
  (zeros ++ [byteAt (checkBytes (crc16 zeros)) 0]) ++ [byteAt (checkBytes (crc16 zeros)) 1 + extra]

theorem test_joining_in_force :
    (match exec .configByteTimeout { reading [] with loader := { (reading []).loader with station := 4, role := .both } } with
      | .next t => t.peers.station == .joining && (t.peers.table[4]).reportedActive == some false && !t.link.begun
      | _ => false) = true := by decide

theorem test_hyp_config_check : (imageWith 0#8).drop 113 = checkBytes (crc16 ((imageWith 0#8).take 113)) := by
  have h : ∀ c : BitVec 16, [byteAt (checkBytes c) 0, byteAt (checkBytes c) 1] = checkBytes c := fun c => rfl
  simpa [imageWith, zeros, List.take_append, List.drop_append] using h (crc16 zeros)
theorem test_hyp_config_bad : (imageWith 1#8).drop 113 ≠ checkBytes (crc16 ((imageWith 1#8).take 113)) := by
  have h : ∀ c : BitVec 16, [byteAt (checkBytes c) 0, byteAt (checkBytes c) 1 + 1#8] ≠ checkBytes c := by
    intro c e
    have := congrArg (fun l => byteAt l 1) e
    simp [byteAt] at this
  simpa [imageWith, zeros, List.take_append, List.drop_append] using h (crc16 zeros)

/-- `base` before anything has begun. -/
def starting : State :=
  { base with deck := {}, lane := {}, link := {}, peers := { table := base.peers.table } }

/-- A calibrated cell count, and the lock. -/
def withCells (n : Nat) (locked : Bool) (s : State := starting) : State :=
  { s with retained := { s.retained with cal := { s.retained.cal with cellCount := n }, lockEngaged := locked } }

theorem test_hyp_first_events : starting.live = true ∧ starting.weigh.select = none ∧
    (scanList starting.cfg.channelMap).head? = some 0 ∧
    cellCountOf (withCells 2 false).cfg.channelMap = (withCells 2 false).retained.cal.cellCount ∧
    cellCountOf (withCells 3 true).cfg.channelMap ≠ (withCells 3 true).retained.cal.cellCount ∧
    (withCells 3 true).retained.lockEngaged = true ∧ (withCells 3 false).retained.lockEngaged = false ∧
    starting.offline = false ∧ starting.link.begun = false ∧ base.link.begun = true ∧ starting.cal.notice = none ∧
    starting.deck.sampled = false ∧ starting.tickets.printer ≠ .ready ∧
    ({ starting with tickets := { starting.tickets with printer := .ready } } : State).tickets.printer = .ready := by decide

theorem test_hyp_notice : ((({ starting with link := { starting.link with begun := true } } : State).place
    (helloFrame starting)).1.place (noticeFrame ⟨.startErase, false, true, 1⟩)).2 = true := by decide

theorem test_hyp_weight : 0 < (20 : Nat) ∧ (0 < (8 : Nat) ∧ [(20 : Int)].length ≤ 8) := by decide

/-- `base` with channel 1 or channel 2 of the default map selected. -/
def scanning (c : Channel) : State := { base with weigh := { base.weigh with select := some c, answerLimit := some 50 } }

theorem test_hyp_sample : base.weigh.select = none ∧ (scanning 0).weigh.select = some 0 ∧
    fromBeSigned [0x7F#8, 0xFF#8, 0xFE#8] ≠ 8388607 ∧ fromBeSigned [0x80#8, 0#8, 1#8] ≠ -8388608 ∧
    fromBeSigned [0x7F#8, 0xFF#8, 0xFF#8] = 8388607 ∧ fromBeSigned [0x80#8, 0#8, 0#8] = -8388608 ∧
    (scanList base.cfg.channelMap).find? (fun k => (0 : Channel) < k) = some 1 ∧
    (scanList base.cfg.channelMap).find? (fun k => (1 : Channel) < k) = none ∧
    (scanning 0).weigh.answerLimit.isSome = true ∧ (2#8 : Byte) ≠ byteOf ((0 : Channel).val + 1) := by decide

theorem test_hyp_good_scan : (scanning 1).live = true ∧ (scanning 1).weigh.select = some 1 ∧
    (scanList (scanning 1).cfg.channelMap).head? = some 0 ∧
    (scanList (scanning 1).cfg.channelMap).find? (fun k => (1 : Channel) < k) = none ∧
    fromBeSigned [0#8, 1#8, 0#8] ≠ -8388608 ∧ fromBeSigned [0#8, 1#8, 0#8] ≠ 8388607 := by decide

/-- `base` ready to capture a weight. -/
def capturing (w : Int) : State :=
  { base with
    weigh := { base.weigh with
      captureRequest := true, current := .valid w, stable := true, monitor := .running, zeroSet := true
      lastMass := some 1200000 }
    deck := { base.deck with presence := true, armed := true } }

theorem test_hyp_capture : (capturing 400).captureHolds = true ∧ (capturing 399).captureHolds = false ∧
    20 * ((capturing 400).retained.cal.interval : Int) ≤ 400 := by decide

theorem test_hyp_zero : (capturing 0).weigh.lastMass = some 1200000 ∧ (capturing 0).deckLoopClear = true ∧
    (capturing 0).beamsClear = true ∧ (capturing 0).measuring = false ∧
    (1200000 : Int).natAbs ≤ 20 * (capturing 0).retained.cal.capacity ∧
    20 * (capturing 0).retained.cal.capacity < (1200001 : Int).natAbs ∧ base.weigh.lastMass = none := by decide

theorem test_hyp_raw : base.deck.lines[(Input.help).index] = !true ∧ starting.deck.sampled = false ∧
    base.cfg.deckLoopFitted = false ∧ (Input.help ≠ .deckLoop) := by decide

/-- `base` with the debounce timer of an input running, and the deck loop fitted. -/
def filtering (i : Input) : State :=
  { base with
    cfg := { base.cfg with deckLoopFitted := true }
    deck := { base.deck with timers := base.deck.timers.set i.index (some 100) } }

theorem test_hyp_debounce : (filtering .help).deck.timers[(Input.help).index].isSome = true ∧
    (filtering .help).takingScans = false ∧ (filtering .deckLoop).deck.timers[Input.deckLoop.index].isSome = true ∧
    (filtering .deckLoop).cfg.deckLoopFitted = true ∧ (filtering (.beam .b)).live = true ∧
    (filtering (.beam .b)).deck.timers[(Input.beam .b).index].isSome = true ∧ (Input.beam .b ≠ .deckLoop) := by decide

/-- Before the start report the lane is told nothing of a beam, and a measurement that takes scans is told (R28, R177). -/
theorem test_beam_before_report :
    (let s := filtering (.beam .b)
     match exec (.debounceExpiry (.beam .b)) { s with
         deck := { s.deck with reportSent := false, lines := s.deck.lines.set (Input.beam .b).index true }
         cal := { inHand := some { request := .zero, stage := .measuring } } } with
      | .next t => t.posted == [.event .windowEmptyBeam, .event (.calInterrupt .beam)]
      | _ => false) = true := by decide

theorem test_hyp_ready : ({ base with loader := { base.loader with role := .offline } } : State).offline = true ∧
    base.offline = false ∧ base.active? (.approach .a) = false ∧ base.active? (.approach .b) = false ∧
    (withActive [.approach .b]).active? (.approach .b) = true ∧
    (withActive [.approach .b]).directionFrom .b = some .outbound ∧
    (withActive [.approach .a, .approach .b]).active? (.approach .a) = true ∧
    End.a = ((withActive []).deck.lastNear.map End.other).getD (withActive []).cfg.roadEnd := by decide

theorem test_hyp_barriers : base.barriersWork = true ∧ ((withBarrier .fault).barrier .a).state = .fault ∧
    ((withBarrier .rising).barrier .a).state = .rising ∧ ((withBarrier .falling).barrier .a).state = .falling ∧
    (withActive [.upLimit .a]).active? (.upLimit .a) = true ∧ (withActive [.upLimit .a]).active? (.downLimit .a) = false ∧
    ((withBarrier .up (withActive [.safety .a])).barrier .a).state = .up ∧
    (withActive [.safety .a]).active? (.safety .a) = true ∧ (withActive [.downLimit .a]).active? (.downLimit .a) = true ∧
    (withActive [.motorFault .a]).active? (.motorFault .a) = true := by decide

/-- A LOWER pending, and the travel timer running. -/
def lowering (b : BarrierState) : State :=
  { base with barrierA := { base.barrierA with state := b, lowerPending := true, travel := some 6 } }

theorem test_hyp_barriers_pending : ((lowering .rising).barrier .a).lowerPending = true ∧
    (lowering .rising).active? (.safety .a) = false ∧ ((lowering .up).barrier .a).state = .up ∧
    ((lowering .falling).barrier .a).travel.isSome = true ∧ (base.barrier .a).travel = none ∧
    (lowering .up).barriersWork = true ∧ ((lowering .up).barrier .a).lowerPending = true ∧
    (lowering .up).active? (.safety .a) = false ∧ (lowering .up).active? (.downLimit .a) = false ∧
    (withActive [.safety .a] (lowering .up)).active? (.safety .a) = true := by decide

theorem test_hyp_barriers_at_limit :
    (let s := withActive [.upLimit .a] (lowering .falling)
     s.barriersWork = true ∧ (s.barrier .a).state = .falling ∧ s.active? (.upLimit .a) = true ∧
       s.active? (.downLimit .a) = false ∧ s.active? (.safety .a) = false ∧
       (withActive [.safety .a] s).active? (.safety .a) = true ∧ (withActive [.safety .a] s).active? (.downLimit .a) = false ∧
       (withActive [.downLimit .a] s).active? (.upLimit .a) = true ∧ (withActive [.downLimit .a] s).active? (.downLimit .a) = true) ∧
    (let s := withActive [.downLimit .a] (lowering .up)
     (s.barrier .a).state = .up ∧ (s.barrier .a).lowerPending = true ∧ s.active? (.safety .a) = false ∧
       s.active? (.downLimit .a) = true ∧ s.active? (.upLimit .a) = false ∧
       (withActive [.upLimit .a] s).active? (.upLimit .a) = true ∧ (withActive [.upLimit .a] s).active? (.safety .a) = false) := by
  decide

theorem test_hyp_barriers_conflict :
    (let s := withActive [.upLimit .a, .downLimit .a]
     (s.barrier .a).state = .down ∧ s.active? (.upLimit .a) = true ∧ s.active? (.downLimit .a) = true ∧
       ((withBarrier .up s).barrier .a).state = .up ∧ (withBarrier .up s).active? (.safety .a) = false) := by decide

theorem test_hyp_barrier_reset : base.laneTakes = true ∧ (4#8 : Byte).toNat = base.own.val ∧
    argumentEnd (argument1 0#8) = some .a ∧ argumentEnd (argument1 1#8) = some .b := by decide

theorem test_hyp_lamps : base.live = true ∧ ((withBarrier .fault).barrier .a).state = .fault ∧ base.offline = false ∧
    ({ base with loader := { base.loader with station := 0 } } : State).offline = true := by decide

theorem test_hyp_placing : base.link.bulk.frames.length < 16 ∧ (filled .laneStatus 15).frames.length < 16 ∧
    16 ≤ (filled .laneStatus 16).frames.length ∧ base.offline = false ∧ base.lane.help ≠ .pending ∧
    base.link.urgent.frames.length < 4 ∧ 4 ≤ (filled .help 4).frames.length := by decide

theorem test_hyp_entries : (inLane .weighing record1).lane.record.direction = some .inbound ∧
    (inLane .weighing record1).lane.record.category = some 3 ∧ (withRate).store.tariff[(3 : Category)] = some 9500 ∧
    base.store.tariff[(3 : Category)] = none ∧ base.lane.record.direction ≠ some .inbound ∧
    (let s := inLane .boarding { record1 with category := none, readerCategory := some 3 }
     s.lane.record.direction = some .inbound ∧ s.lane.record.category = none ∧ s.lane.record.token = some token1 ∧
       s.lane.record.readerCategory = some 3) ∧
    (inLane .boarding { record1 with category := none }).lane.record.readerCategory = none ∧
    base.store.find token1 = none ∧
    (inLane .boarding { direction := some .inbound }).lane.record.token = none := by decide

theorem test_hyp_departure : ((withBarrier .fault).barrier (withBarrier .fault).nearEnd).state = .fault ∧
    (base.barrier base.farEnd).state ≠ .fault ∧ (base.barrier base.farEnd).state ≠ .up ∧
    (let s := { base with barrierB := { base.barrierB with state := .up }, deck := { base.deck with presence := true } }
     (s.barrier s.farEnd).state = .up ∧ s.deck.presence = true) ∧
    (let s := { base with barrierA := { base.barrierA with state := .up }, barrierB := { base.barrierB with state := .up } }
     (s.barrier s.farEnd).state = .up ∧ s.deck.presence = false ∧ s.active? (.safety s.farEnd) = false ∧
       (s.barrier s.nearEnd).state = .up ∧ s.reversingHolds = true ∧
       (withActive [.approach .a] s).reversingHolds = false) ∧
    ((inLane .held { record1 with progress := .released }).lane.record.direction = some .inbound ∧
      (inLane .held { record1 with progress := .released }).lane.record.progress = .released) := by decide

theorem test_hyp_start_report : ({ base with lane := {} } : State).lane.reported = false ∧ base.cal.inHand = none ∧
    base.lane.state = .idle ∧ base.lane.calHold = false ∧
    ({ inLane .approach with lane := { (inLane .approach).lane with idWait := some 10 } } : State).lane.idWait.isSome = true ∧
    (inLane .approach).lane.idWait = none := by decide

theorem test_hyp_token : (inLane .approach).laneTakes = true ∧ decodeReader [] = none ∧
    decodeReader (tokenArgument ++ [3#8]) = some (token1, some 3) ∧ decodeReader (tokenArgument ++ [0xFF#8]) = some (token1, none) ∧
    decodeToken tokenArgument = some token1 ∧ (inLane .approach).lane.state = .approach ∧
    (inLane .assist { assist := some .noToken }).lane.record.assist = some .noToken ∧
    (inLane .approach).deck.presence = false ∧ (base.barrier base.nearEnd).state ≠ .fault := by decide

theorem test_hyp_boards : ((withBarrier .fault).barrier (withBarrier .fault).nearEnd).state = .fault ∧
    (let s := { base with deck := { base.deck with presence := true } }
     s.nearEnd = .a ∧ s.boardingHolds = true ∧ ((s.raiseBarrier .a).1.barrier .a).state ≠ .fault ∧
       (let t := withActive [.upLimit .a, .downLimit .a] s
        t.boardingHolds = true ∧ (t.barrier .a).state ≠ .fault ∧ ((t.raiseBarrier .a).1.barrier .a).state = .fault) ∧
       (withActive [.beam .b] s).boardingHolds = false) := by decide

/-- A vehicle on the deck in a lane state. -/
def onDeck (l : LaneState) (r : TxnRecord := record1) : State :=
  { inLane l r with deck := { (inLane l r).deck with presence := true } }

theorem test_hyp_boarding : (onDeck .boarding).laneTakes = true ∧ (onDeck .boarding).boardingHolds = true ∧
    (inLane .boarding record1).boardingHolds = false ∧
    ((withBarrier .fault (onDeck .boarding)).barrier (onDeck .boarding).nearEnd).state = .fault := by decide

theorem test_hyp_presence : (inLane .claiming record1).laneTakes = true ∧ (inLane .claiming record1).lane.asked = none ∧
    ({ onDeck .weighing with lane := { (onDeck .weighing).lane with asked := some .claim } } : State).lane.asked.isSome = true ∧
    (inLane .deckBlocked).lane.state = .deckBlocked ∧ (inLane .held).lane.state ≠ .reversing := by decide

/-- A lane that waits at a leg of its way out or back. -/
def atLeg (l : LaneState) (leg : Leg) (s : State := inLane l record1) : State :=
  { s with lane := { s.lane with leg := leg, clearDeckLimit := some 60 } }

theorem test_hyp_legs : (atLeg .departing .rising (onDeck .departing)).lane.leg = .rising ∧
    (atLeg .departing .rising (onDeck .departing)).deck.presence = true ∧
    (atLeg .departing .clearing).clearHolds = true ∧ ((atLeg .departing .clearing).barrier (atLeg .departing .clearing).farEnd).state ≠ .fault ∧
    (atLeg .departing .lowering).lane.leg = .lowering ∧ (atLeg .departing .lowering).lane.clearDeckLimit.isSome = true ∧
    (atLeg .reversing .clearing).reversingHolds = true ∧ (atLeg .reversing .clearing (onDeck .reversing)).reversingHolds = false ∧
    (atLeg .reversing .lowering).lane.state = .reversing := by decide

theorem test_hyp_legs_clear : (atLeg .departing .rising).lane.leg = .rising ∧ (atLeg .departing .rising).clearHolds = true ∧
    (atLeg .departing .rising).farEnd = .b ∧ ((atLeg .departing .rising).barrier .b).state ≠ .fault ∧
    (let s := atLeg .departing .clearing (inLane .departing { record1 with near := some .b })
     s.laneTakes = true ∧ s.farEnd = .a ∧ ((withBarrier .fault s).barrier .a).state = .fault ∧
       (withBarrier .fault s).clearHolds = true) ∧
    (atLeg .departing .clearing (onDeck .departing)).clearHolds = false := by decide

theorem test_hyp_not_waited : (inLane .idle).lane.state = .idle ∧ (atLeg .departing .lowering).lane.leg ≠ .rising ∧
    (atLeg .departing .rising).lane.leg ≠ .lowering ∧ (onDeck .departing).deck.presence = true ∧
    (onDeck .reversing).lane.state = .reversing := by decide

/-- An inbound lane in WEIGHING with no capture yet. -/
def weighing1 : State := withRate (onDeck .weighing { record1 with capture := none, visitRef := none })

theorem test_hyp_inbound : weighing1.laneTakes = true ∧ weighing1.lane.state = .weighing ∧
    weighing1.lane.record.capture = none ∧ weighing1.lane.record.direction = some .inbound ∧ weighing1.joining = false ∧
    ({ weighing1 with peers := { weighing1.peers with station := .joining } } : State).joining = true ∧
    weighing1.lane.record.token = some token1 ∧ weighing1.lane.record.category = some 3 ∧
    weighing1.kindAnswer token1 3 = .given .twoPass 9500 none ∧
    (onDeck .weighing).store.tariff[(3 : Category)] = none := by decide

/-- An outbound lane in WEIGHING with no capture yet. -/
def outbound1 (v : VisitRecord) : State :=
  withVisit v (onDeck .weighing { near := some .b, direction := some .outbound, token := some token1 })

theorem test_hyp_outbound : (outbound1 visit1).laneTakes = true ∧ (outbound1 visit1).lane.record.capture = none ∧
    (outbound1 visit1).visits.find token1 = some visit1 ∧ visit1.claim.kind = .twoPass ∧
    (outbound1 stored1).visits.find token1 = some stored1 ∧ stored1.claim.tare = some 11200 ∧
    (max 11400 11200 - min 11400 11200 ≤ base.cfg.tareTolerance * base.retained.cal.interval) ∧
    (base.cfg.tareTolerance * base.retained.cal.interval < max 11420 11200 - min 11420 11200) ∧
    (onDeck .weighing).visits.find token1 = none ∧ (outbound1 visit1).joining = false := by decide

/-- An outbound lane that waits with its capture for the station to be ACTIVE. -/
def outboundWaits (v : VisitRecord) (net : Option Nat) : State :=
  let s := outbound1 v
  { s with lane := { s.lane with
      waitActive := true
      record := { s.lane.record with capture := some (11340, none), net := net, visitRef := some number1 } } }

theorem test_hyp_outbound_active : (outboundWaits visit1 none).laneTakes = true ∧
    (outboundWaits visit1 none).lane.state = .weighing ∧ (outboundWaits visit1 none).lane.waitActive = true ∧
    (outboundWaits visit1 none).lane.record.capture = some (11340, none) ∧
    (outboundWaits visit1 none).visits.find token1 = some visit1 ∧ (outboundWaits visit1 none).lane.record.net = none ∧
    (outboundWaits visit1 (some 13680)).lane.record.net.isSome = true ∧
    (outboundWaits visit1 (some 13680)).lane.record.visitRef = some visit1.number ∧
    ({ onDeck .weighing with peers := { base.peers with station := .joining } } : State).joining = true := by decide

theorem test_hyp_weighing_ends :
    (let s := { weighing1 with lane := { weighing1.lane with waitActive := true, stabilityLimit := some 30 } }
     s.lane.waitActive = true ∧ s.lane.stabilityLimit.isSome = true ∧ s.joining = false) ∧
    weighing1.lane.waitActive = false ∧ weighing1.lane.stabilityLimit = none ∧
    (let s := withRate { onDeck .weighing with lane := { (onDeck .weighing).lane with waitActive := true } }
     s.laneTakes = true ∧ s.lane.state = .weighing ∧ s.lane.waitActive = true ∧ s.joining = false ∧
       s.lane.record.direction = some .inbound ∧ s.lane.record.token = some token1 ∧ s.lane.record.category = some 3 ∧
       s.lane.record.capture = some (25020, none) ∧ s.kindAnswer token1 3 = .given .twoPass 9500 none ∧
       ({ s with peers := { s.peers with station := .joining } } : State).joining = true ∧
       ({ s with store := {} } : State).store.tariff[(3 : Category)] = none) ∧
    (onDeck .weighing).lane.record.capture = some (25020, none) ∧ base.lane.state ≠ .weighing ∧
    ({ onDeck .weighing with lane := { (onDeck .weighing).lane with asked := some .close } } : State).lane.record.visitRef =
      some number1 := by decide

/-- A lane that waits for the outcome of its own frame. -/
def awaiting (l : LaneState) (p : Progress) (c : Option HeldCommand := none) : State :=
  inLane l { record1 with progress := p, pendingCommand := c }

theorem test_hyp_outcomes : (awaiting .claiming .claimOut).laneTakes = true ∧
    (awaiting .claiming .claimOut).lane.record.pendingCommand = none ∧
    (awaiting .claiming .claimOut).lane.record.visitRef = some number1 ∧
    (awaiting .claiming .claimOut).lane.record.kind ≠ some .storedTare ∧
    (awaiting .closing .closeOut).lane.record.progress = .closeOut ∧ base.lane.record.visitRef ≠ some number1 ∧
    ({ record1 with kind := some .storedTare, tare := some 11200 } : TxnRecord).tare = some 11200 ∧
    (awaiting .claiming .claimOut (some .back)).lane.record.pendingCommand = some .back ∧
    (awaiting .closing .closeOut (some .pass)).lane.record.pendingCommand = some .pass := by decide

theorem test_hyp_pending_stored :
    (let r : TxnRecord := { record1 with
        kind := some .storedTare, tare := some 11200, progress := .claimOut, pendingCommand := some .pass }
     (inLane .claiming r).laneTakes = true ∧ r.visitRef = some number1 ∧ r.capture = some (25020, none) ∧
       r.tare = some 11200 ∧ r.rate = some 9500 ∧ r.pendingCommand = some .pass ∧
       (inLane .closing { r with progress := .closeOut }).lane.record.progress = .closeOut) := by decide

theorem test_hyp_issued :
    (let r : TxnRecord := { record1 with net := some 13680, load := some .delivery, charge := some 129960 }
     r.visitRef = some number1 ∧ r.token = some token1 ∧ r.kind = some .twoPass ∧ r.rate = some 9500 ∧
       r.capture = some (25020, none) ∧ r.net = some 13680 ∧ r.load = some .delivery ∧ r.charge = some 129960 ∧
       r.visitCopy = none ∧ r.category = some 3 ∧ ({ r with visitCopy := some visit1 } : TxnRecord).visitCopy = some visit1) ∧
    base.tickets.printer = .absent ∧ ({ base with tickets := { base.tickets with printer := .paperOut } } : State).tickets.printer = .paperOut := by
  decide

theorem test_hyp_removal : (inLane .held record1).lane.asked = none ∧
    (inLane .held record1).lane.record.openFrame = some (.openFrame ⟨number1, { claim1 with time := none }⟩) ∧
    (inLane .ticketing record1).lane.record.visitRef = some number1 ∧ (inLane .departing record1).lane.state = .departing ∧
    (inLane .reversing record1).lane.record.visitRef = some number1 ∧ (inLane .reversing record1).lane.state = .reversing ∧
    (inLane .held record1).lane.record.visitRef ≠ some ⟨4, 17, 53⟩ := by decide

/-- A request in hand at a stage. -/
def inHand (r : CalRequest) (st : CalStage) (scans : Nat := 0) (sumA : Int := 0) : State :=
  { base with cal := { base.cal with inHand := some { request := r, stage := st, scans := scans, sumA := sumA } } }

/-- Each clause about a request: one in hand that awaits the hold, in IDLE and in another state, and none that does. -/
theorem test_hyp_hold : (inHand .zero .awaitingHold).laneTakes = true ∧ (inHand .zero .awaitingHold).lane.state = .idle ∧
    (∃ h, (inHand .zero .awaitingHold).cal.inHand = some h ∧ h.stage = .awaitingHold) ∧
    (let s := { inHand .zero .awaitingHold with lane := { base.lane with state := .approach } }
     s.laneTakes = true ∧ s.lane.state ≠ .idle ∧ ∃ h, s.cal.inHand = some h ∧ h.stage = .awaitingHold) ∧
    (base.laneTakes = true ∧ base.cal.inHand = none ∧ base.lane.state = .idle ∧ (inLane .approach).lane.state ≠ .idle) :=
  ⟨by decide, rfl, ⟨_, rfl, rfl⟩, ⟨by decide, by decide, ⟨_, rfl, rfl⟩⟩, by decide⟩

/-- The release at the end of a measurement: the hold held, with nothing in hand. -/
theorem test_hyp_hold_release : (let s := { base with lane := { base.lane with calHold := true } }
    s.laneTakes = true ∧ s.lane.calHold = true ∧ s.cal.inHand = none) ∧ base.lane.calHold = false := by decide

theorem test_hyp_refused : (5#8 : Byte).toNat ≠ base.own.val ∧ decodeToken (argument1 0#8) = none ∧
    argumentCategory (argument1 16#8) = none ∧ argumentEnd (argument1 2#8) = none ∧
    (inLane .reversing).lane.state ≠ .idle ∧
    (inLane .assist).lane.record.progress = .none ∧ (inLane .assist).lane.record.token = none := by decide

theorem test_hyp_help : ({ base with lane := { base.lane with help := .pending } } : State).lane.help = .pending ∧
    base.lane.help = .none ∧
    ({ base with lane := { base.lane with help := .acknowledged } } : State).lane.help = .acknowledged := by decide

theorem test_hyp_retry : (inLane .assist { record1 with boarded := true }).lane.asked = none ∧
    record1.token.isSome = true ∧ record1.boarded = false ∧
    (inLane .assist { record1 with progress := .claimDropped }).lane.record.openFrame =
      some (.openFrame ⟨number1, { claim1 with time := none }⟩) ∧
    (inLane .assist { record1 with progress := .closed }).lane.record.kind = some .twoPass ∧
    (inLane .deckBlocked).lane.state = .deckBlocked ∧ (awaiting .claiming .claimOut (some .back)).lane.state = .claiming ∧
    (inLane .closing record1).lane.record.pendingCommand = none := by decide

theorem test_hyp_passed_on : argumentCategory (argument1 15#8) = some 15 ∧ argumentCategory (argument1 3#8) = some 3 ∧
    weighing1.lane.asked = none ∧ (withRate (inLane .assist { record1 with assist := some .categoryClosed })).lane.state = .assist ∧
    base.tickets.last = none ∧
    ({ base with tickets := { base.tickets with last := some ticket1 } } : State).tickets.placesTaken < 4 ∧
    (inLane .assist { record1 with assist := some .unmatched }).visits.find token1 = none := by decide

/-- An outbound lane in ASSIST with reason UNMATCHED and its capture held. -/
def unmatched1 (v : VisitRecord) (r : TxnRecord := {}) : State :=
  withVisit v (onDeck .assist { r with
    near := some .b, direction := some .outbound, token := some (chars "ZZ"), capture := some (11340, none)
    assist := some .unmatched })

theorem test_hyp_token_again : (unmatched1 visit1).laneTakes = true ∧ decodeToken tokenArgument = some token1 ∧
    (unmatched1 visit1).lane.state = .assist ∧ (unmatched1 visit1).lane.record.assist = some .unmatched ∧
    (unmatched1 visit1).lane.record.capture = some (11340, none) ∧ (unmatched1 visit1).visits.find token1 = some visit1 ∧
    (unmatched1 visit1).lane.record.net = none ∧
    (let s := unmatched1 visit1 { net := some 13680, visitRef := some number1 }
     s.lane.record.net.isSome = true ∧ s.lane.record.visitRef = some visit1.number) ∧
    (unmatched1 stored1).visits.find token1 = some stored1 ∧ stored1.claim.tare = some 11200 ∧
    max 11340 11200 - min 11340 11200 ≤ base.cfg.tareTolerance * base.retained.cal.interval ∧
    base.cfg.tareTolerance * base.retained.cal.interval < max 11340 9000 - min 11340 9000 ∧
    (unmatched1 { visit1 with claim := { claim1 with token := chars "YY" } }).visits.find token1 = none ∧
    (unmatched1 visit1).joining = false ∧
    ({ unmatched1 visit1 with peers := { base.peers with station := .joining } } : State).joining = true := by decide

theorem test_hyp_visit_open : base.takesYard = true ∧ decodeVisitRecord [] = none ∧
    decodeVisitRecord (visitRecordBytes visit1) = some visit1 ∧ visit1.number.opener = 4 ∧ visit1.number.opener ≠ 2 ∧
    (∃ v ∈ (withVisit visit1).visits.table, v.number = number1) ∧
    (∃ v ∈ (withVisit ⟨⟨2, 1, 1⟩, claim1⟩).visits.table, v.claim.token = token1) ∧
    (let s := { withVisit ⟨⟨2, 1, 1⟩, { claim1 with token := chars "ZZ" }⟩ with cfg := { base.cfg with yardLimit := 1 } }
     s.cfg.yardLimit ≤ s.visits.table.length) ∧
    base.visits.table.length < base.cfg.yardLimit := by decide

theorem test_hyp_visit_frames : base.takesYard = true ∧ base.visits.cursor.walking = false ∧ decodeVisitNumber [] = none ∧
    decodeVisitNumber (visitNumberBytes number1) = some number1 ∧
    (withVisit visit1).visits.table = [] ++ visit1 :: [] ∧ (∀ v ∈ base.visits.table, v.number ≠ number1) ∧
    (List.replicate 95 visit1).length < 96 ∧ 96 ≤ (List.replicate 96 visit1).length := by decide

theorem test_hyp_slot : base.laneTakes = true ∧ base.live = true ∧ base.offline = false ∧ starting.laneTakes = false ∧ base.link.visit.frames.length < 8 ∧ (filled .visitOpen 7).frames.length < 8 ∧
    8 ≤ (filled .visitOpen 8).frames.length ∧
    ({ base with visits := { base.visits with slot := some ⟨.closeFrame number1, false⟩ } } : State).visits.slot =
      some ⟨.closeFrame number1, false⟩ ∧
    ({ base with visits := { base.visits with slot := some ⟨.openFrame visit1, true⟩ } } : State).visits.slot =
      some ⟨.openFrame visit1, true⟩ ∧
    base.visits.slot = none ∧ base.visits.cursor.waiting = none ∧ base.visits.find token1 = none := by decide

theorem test_hyp_fresh : base.visits.Inv :=
  ⟨by decide, by decide, by decide, by decide, by decide, by decide, by decide⟩

/-- A cursor that walks a table of one or two visits. -/
def walking (table : List VisitRecord) (position : Nat) (w : Option VisitRecord) (own : Peer := {}) : State :=
  { base with
    peers := { base.peers with table := base.peers.table.set 4 own }
    visits := { base.visits with
      table := table, cursorEnabled := true, cursor := { walking := true, position := position, waiting := w } } }

theorem test_hyp_cursor : base.visits.cursorEnabled = false ∧ (walking [] 0 none).visits.table = [] ∧
    (walking [visit1] 0 none).visits.table ≠ [] ∧ (walking [visit1] 0 none).visits.table[0]? = some visit1 ∧
    custodianOf (walking [visit1] 0 none).peers.table [] 4 ≠ some 4 ∧
    custodianOf (walking [visit1] 0 none { state := .live, reportedActive := some true }).peers.table [] 4 = some 4 ∧
    (walking [visit1] 0 (some visit1)).visits.cursor.waiting = some visit1 ∧
    (walking [visit1, visit1] 0 none).visits.table = [] ++ visit1 :: [visit1] ∧
    (Posted.event .cursorAdvance) ∉ ((walking [visit1] 0 none).took .cursorAdvance).posted := by decide

/-- A close of the visit at which the cursor waits: the walk goes on at the next visit by its own event (R167). -/
theorem test_close_at_cursor :
    (let other : VisitRecord := ⟨⟨2, 1, 1⟩, { claim1 with token := chars "ZZ" }⟩
     match exec (.visitClose 2 (visitNumberBytes number1)) (walking [visit1, other] 0 (some visit1)) with
      | .next t => t.visits.table == [other] && t.visits.cursor.position == 0 && t.visits.cursor.waiting == none &&
          t.posted == [.event .cursorAdvance, .event (.removalReport number1)]
      | _ => false) = true := by decide

/-- A stored tare of the token. -/
def tare1 : TareRecord := { token := token1, tare := 11200, expiry := some 412, category := some 5 }

/-- `base` with that stored tare and a depot day. -/
def withTare (day : Nat) : State :=
  { withRate with store := { withRate.store with tares := [tare1] }, peers := { base.peers with clock := some ⟨day, 0⟩ } }

theorem test_hyp_entries_tare :
    (let s := { withTare 412 with lane := (inLane .boarding { record1 with category := none }).lane }
     s.lane.record.direction = some .inbound ∧ s.lane.record.category = none ∧ s.lane.record.token = some token1 ∧
       s.lane.record.readerCategory = none ∧ s.store.find token1 = some tare1 ∧ tare1.expired s.peers.clock = false ∧
       tare1.expired (withTare 413).peers.clock = true ∧ s.store.tariff[(5 : Category)] = none ∧
       s.store.tariff[(3 : Category)] = some 9500) := by decide

theorem test_hyp_tares : decodeToken (List.replicate 8 0#8) = none ∧ tokenArgument.length = 8 ∧
    (withTare 412).store.tares = [] ++ tare1 :: [] ∧ (∀ r ∈ base.store.tares, r.token ≠ token1) ∧
    (let p := tokenArgument ++ beBytes 3 90000 ++ [0xFF#8, 0xFF#8, 15#8]
     p.length = 14 ∧ decodeToken (field p 0 8) = some token1 ∧ field p 8 3 ≠ [0xFF#8, 0xFF#8, 0xFF#8] ∧
       (byteAt p 13).toNat < 16) ∧
    (let p := tokenArgument ++ beBytes 3 0 ++ [0#8, 0#8, 16#8]
     16 ≤ (byteAt p 13).toNat ∧ byteAt p 13 ≠ 0xFF#8) ∧
    (List.replicate 63 tare1).length < 64 ∧ 64 ≤ (List.replicate 64 tare1).length ∧
    (byteAt [15#8, 0#8, 0#8, 0#8] 0).toNat = (15 : Category).val ∧ 16 ≤ (byteAt [16#8, 0#8, 0#8, 0#8] 0).toNat := by decide

theorem test_hyp_store : (withTare 412).laneTakes = true ∧ (withTare 412).store.find token1 = some tare1 ∧
    tare1.expired (withTare 412).peers.clock = false ∧ tare1.expired (withTare 413).peers.clock = true ∧
    base.store.find token1 = none ∧ (withTare 412).store.tariff[(3 : Category)] = some 9500 ∧
    base.store.tariff[(3 : Category)] = none := by decide

/-- `base` with a ticket number issued last, and entries in the queue. -/
def printing (last : Nat) (queue : List TicketEntry) (p : PrinterState := .ready) : State :=
  { base with
    retained := { base.retained with lastTicket := last }
    tickets := { base.tickets with queue := queue, printer := p, answerLimit := some 20 } }

theorem test_hyp_issue : base.tickets.slot = none ∧ base.tickets.committing = none ∧ base.tickets.queue.length < 4 ∧
    (printing 99999998 []).retained.lastTicket + 1 ≤ 99999999 ∧ 99999999 < (printing 99999999 []).retained.lastTicket + 1 ∧
    base.tickets.waiting = none ∧ 4 ≤ (printing 0 (List.replicate 4 ⟨ticket1, .queued, true⟩)).tickets.queue.length ∧
    (let s := { base with
        retained := { base.retained with commits := [.ticket 1] }, tickets := { base.tickets with
          slot := some issue1, committing := some ticket1 } }
     s.retained.commits = .ticket 1 :: [] ∧ s.tickets.committing = some ticket1 ∧ s.tickets.slot = some issue1) ∧
    ({ base with tickets := { base.tickets with waiting := some issue1 } } : State).tickets.waiting = some issue1 ∧
    (printing 1 [⟨ticket1, .printed, true⟩, ⟨ticket1, .printed, false⟩]).tickets.queue =
      [⟨ticket1, .printed, true⟩] ++ ⟨ticket1, .printed, false⟩ :: [] := by decide

theorem test_hyp_printer : (printing 1 [⟨ticket1, .printing, true⟩]).tickets.slot = none ∧
    (printing 1 [⟨ticket1, .printing, true⟩]).tickets.printer = .ready ∧
    (printing 1 []).tickets.isPrinting = false ∧ (printing 1 [] .absent).tickets.printer ≠ .ready ∧
    (printing 1 [⟨ticket1, .queued, false⟩] .fault).tickets.printer ≠ .absent ∧
    (printing 1 [] .fault).tickets.answerLimit.isSome = true := by decide

theorem test_hyp_printed_ahead :
    (let ahead : TicketEntry := ⟨ticket1, .printed, false⟩
     (printing 1 [ahead, ⟨ticket1, .printing, false⟩, ⟨ticket1, .queued, false⟩]).tickets.queue =
         [ahead] ++ ⟨ticket1, .printing, false⟩ :: [⟨ticket1, .queued, false⟩] ∧
       (printing 1 [ahead, ⟨ticket1, .queued, false⟩] .fault).tickets.isPrinting = false ∧
       (printing 1 [ahead, ⟨ticket1, .printing, false⟩]).tickets.isPrinting = true ∧
       (printing 1 [ahead] .fault).tickets.queue.all (fun x => x.printState != .queued) = true) ∧
    (printing 1 []).tickets.printer = .ready ∧ (printing 1 [⟨ticket1, .printed, true⟩]).tickets.placesTaken < 4 := by decide

/-- `base` with a frame of a queue in transmission, after some failed attempts. -/
def sending (attempts : Nat) : State :=
  { base with link := { base.link with
      visit := { frames := [laneFrameOf (.openFrame visit1)], attempts := attempts }
      tx := some ⟨.visit, laneFrameOf (.openFrame visit1)⟩ } }

theorem test_hyp_line : (sending 0).link.tx.isSome = true ∧ base.link.tx = none ∧ starting.link.begun = false ∧
    (filled .help 1).frames = ⟨.help, []⟩ :: [] ∧ base.link.urgent.frames = [] ∧ base.link.allEmpty = true ∧
    (let l := { base.link with bulk := filled .laneStatus 1 }
     (∀ k : Fin 16, k < 3 → (l.queue (base.cfg.phaseTable[l.pointer + k]).name).frames = []) ∧
       (l.queue (base.cfg.phaseTable[l.pointer + 3]).name).frames = ⟨.laneStatus, []⟩ :: []) ∧
    ((sending 2).link.queue .visit).attempts < 3 ∧ ((sending 3).link.queue .visit).attempts = 3 := by decide

theorem test_hyp_try_start :
    (let l : LinkState := { base.link with lineFree := true, bulk := filled .laneStatus 1 }
     l.begun = true ∧ base.offline = false ∧ l.lineFree = true ∧ l.tx = none ∧ l.urgent.frames = [] ∧
       (l.queue (base.cfg.phaseTable[l.pointer + 3]).name).frames = ⟨.laneStatus, []⟩ :: []) ∧
    (filled .help 1).frames = ⟨.help, []⟩ :: [] ∧ base.link.lineFree = false := by decide

/-- A TARE-DROP of the office, as it is heard, with a check. -/
def heard1 (check : BitVec 16) : HeardFrame := ⟨672#10, 8#8, tokenArgument, check, .whole⟩

theorem test_hyp_command : (argument1 3#8).length = 8 ∧ (0#8 : Byte) = 0#8 ∧ 11 < (12#8 : Byte).toNat := by decide

set_option maxRecDepth 20000 in
theorem test_hyp_heard : base.link.hearing = false ∧ (heard1 0#16).check ≠ crc16 (checkedBytes 672#10 8#8 tokenArgument) ∧
    kindOfCode ((672#10).toNat / 16 % 16) = some .tareDrop ∧ (672#10).toNat / 256 = FrameKind.tareDrop.queue.priority ∧
    (Fin.ofNat 16 (672#10).toNat : Station) = 0 ∧ tokenArgument.length = FrameKind.tareDrop.length ∧
    (752#10).toNat / 16 % 16 = 15 ∧ (33#8).toNat > 32 := by decide

theorem test_hyp_peers : base.takesYard = true ∧
    (let p := List.replicate 5 2#8
     (2 : Station) ≠ 0 ∧ p.length = 5 ∧ (byteAt p 4).toNat ≤ 2) ∧
    (let p := [0#8, 0#8, 0#8, 1#8, 2#8, 2#8, 11#8, 96#8] ++ List.replicate 13 0#8
     p.length = 21 ∧ (byteAt p 4).toNat ≤ 2 ∧ byteAt p 5 = 2#8 ∧ (byteAt p 6).toNat ≤ 11 ∧ (byteAt p 7).toNat ≤ 96) ∧
    fromBe (field [0#8, 0#8, 1#8, 0x51#8, 0x7F#8] 2 3) < 86400 ∧ 86400 ≤ fromBe (field [0#8, 0#8, 1#8, 0x51#8, 0x80#8] 2 3) ∧
    base.peers.joinWindow.isSome = true ∧ base.peers.heartbeat.isSome = true ∧ base.peers.ticking = true ∧
    starting.peers.joinWindow = none ∧ starting.peers.heartbeat = none ∧ starting.peers.ticking = false ∧
    (filled .presence 7).frames.length < 8 ∧ 8 ≤ (filled .presence 8).frames.length := by decide

theorem test_hyp_clock : base.peers.clock = none ∧ (withTare 65535).peers.clock = some ⟨65535, 0⟩ := by decide

theorem test_hyp_service : (inHand .lock .committing).cal.inHand.isSome = true ∧ base.cal.inHand = none ∧
    (withCells 2 true base).retained.lockEngaged = true ∧ base.retained.lockEngaged = false ∧
    (withActive [.beam .a]).active? (.beam .a) = true ∧ base.active? (.beam .a) = false ∧
    1 ≤ (80000#24).toNat ∧ (80000#24).toNat ≤ 80000 ∧ ¬ (80001#24).toNat ≤ 80000 ∧
    base.cfg.channelMap.getLsbD ((2#8).toNat - 1) = true ∧ base.cfg.channelMap.getLsbD ((3#8).toNat - 1) = false ∧
    (50000#24).toNat ≤ 10000 * (5#8).toNat ∧ (50000#24).toNat % (5#8).toNat = 0 ∧
    (withCells 2 false base).retained.cal.cellCount = (scanList base.cfg.channelMap).length ∧
    base.retained.cal.cellCount ≠ (scanList base.cfg.channelMap).length := by decide

theorem test_hyp_measurement : (∃ h, (inHand .zero .measuring 15).cal.inHand = some h ∧ h.stage = .measuring ∧ h.scans = 15) ∧
    (∃ h, (inHand (.span 20000) .measuring 14).cal.inHand = some h ∧ h.stage = .measuring ∧ h.scans ≠ 15) ∧
    roundHalfAway (159991 + 0) 16 < 10000 ∧ 10000 ≤ roundHalfAway (159992 + 0) 16 ∧
    (let span := (2 * (20000 * 1000 * 65536) + 12000) / (2 * 12000)
     ¬ (1 ≤ span ∧ span ≤ 16777215)) ∧
    (∃ h, (inHand .lock .committing).cal.inHand = some h ∧ h.stage ≠ .measuring) :=
  ⟨⟨_, rfl, rfl, rfl⟩, ⟨_, rfl, rfl, by decide⟩, by decide, by decide, by decide, ⟨_, rfl, by decide⟩⟩

theorem test_hyp_write : ({ base with retained := { base.retained with commits := [.cal .lock] } } : State).retained.commits =
      .cal .lock :: [] ∧ base.link.begun = true ∧ base.link.routine.frames.length < 8 ∧ starting.link.begun = false ∧
    base.cal.notice = none := by decide

theorem test_hyp_invariant : base.Inv ∧ step base = .next base :=
  ⟨{ link := ⟨⟨by decide, by decide⟩, ⟨by decide, by decide⟩, ⟨by decide, by decide⟩, ⟨by decide, by decide⟩,
        by decide, by decide, by decide, by decide, by decide⟩
     visits := ⟨test_hyp_fresh, by decide⟩
     tickets := show base.tickets.placesTaken ≤ 4 by decide
     barriers := ⟨⟨by decide, by decide, by decide⟩, ⟨by decide, by decide, by decide⟩⟩
     weigh := ⟨by decide, by decide, by decide⟩
     zero := show (base.weigh.zero.natAbs : Int) ≤ zeroRangeOf base.retained.cal.capacity by decide
     tares := show base.store.tares.length ≤ 64 by decide
     orphans := show base.lane.orphans ≤ 65535 by decide
     own := show (base.peers.table[base.own]).state = .live by decide
     clock := fun _ h => nomatch h }, rfl⟩

theorem test_hyp_round_trip : visit1.valid = true ∧ stored1.valid = true ∧ number1.valid = true := by decide

end Sys2Proof.Tests
end

section
/-! PROOFS. What each command keeps. All commands but RESET, the completions of commits and the reading of the
configuration keep the invariants, the configuration and the retained values (`State.keeps`); those six keep the invariants
(`State.Inv`). -/

namespace Sys2Proof.Machine

/-- The command's answer is a next state that keeps what `State.keeps` lists. -/
def State.answersKept (s : State) (r : Result) : Prop := ∃ t, r = .next t ∧ s.keeps t

section
variable (s : State) (i : Instr) {f : State → State} (h : ∀ t : State, t.keeps (f t))
include h

theorem State.answersKept.live : s.answersKept (.next (s.whenLive f)) := ⟨_, rfl, s.whenLive_keeps f h⟩
theorem State.answersKept.lane : s.answersKept (.next (s.whenLane f)) := ⟨_, rfl, s.whenLane_keeps f h⟩
theorem State.answersKept.barriers : s.answersKept (.next (s.whenBarriers f)) := ⟨_, rfl, s.whenBarriers_keeps f h⟩
theorem State.answersKept.tookLive : s.answersKept (.next ((s.took i).whenLive f)) :=
  ⟨_, rfl, (s.took_keeps i).trans (State.whenLive_keeps _ f h)⟩
theorem State.answersKept.tookLane : s.answersKept (.next ((s.took i).whenLane f)) :=
  ⟨_, rfl, (s.took_keeps i).trans (State.whenLane_keeps _ f h)⟩
theorem State.answersKept.tookYard : s.answersKept (.next ((s.took i).whenYard f)) :=
  ⟨_, rfl, (s.took_keeps i).trans (State.whenYard_keeps _ f h)⟩
theorem State.answersKept.tookBarriers : s.answersKept (.next ((s.took i).whenBarriers f)) :=
  ⟨_, rfl, (s.took_keeps i).trans (State.whenBarriers_keeps _ f h)⟩
theorem State.answersKept.tookTarget (b : Byte) : s.answersKept (.next ((s.took i).whenTarget b f)) :=
  ⟨_, rfl, (s.took_keeps i).trans (State.whenTarget_keeps _ b f h)⟩
end

/-! ### Start-up -/

theorem execFirstScan_keeps (s : State) : s.answersKept (execFirstScan s) :=
  .tookLive s _ fun t => .ite t.beginScan_keeps (.refl t)

/-- Each row of the table of R50 gives a unit within its invariant. -/
theorem State.startingBarrier_inv (s : State) (e : End) : (s.startingBarrier e).Inv := by
  unfold State.startingBarrier
  extract_lets held b
  repeat' split
  all_goals exact ⟨by simp [b], by simp [b], by simp [b]⟩

theorem execFirstSample_keeps (s : State) : s.answersKept (execFirstSample s) := by
  refine .tookLive s _ fun t => .ite (.refl t) ?_
  extract_lets d u e v
  have h : t.keeps v := (State.keeps.of_deck t _).trans (.of_deck u _)
  exact h.trans (State.movesBarriers.keeps
    ⟨v.startingBarrier .a, v.startingBarrier .b, v.posted, rfl,
      fun _ => ⟨v.startingBarrier_inv .a, v.startingBarrier_inv .b⟩⟩)

theorem execCalStartCheck_keeps (s : State) : s.answersKept (execCalStartCheck s) :=
  .tookLive s _ fun t => .ite (.refl t) (.ite (t.askCommit_keeps _) (.ite (.refl t) (t.askCommit_keeps _)))

theorem State.beginJoining_keeps (s : State) : s.keeps s.beginJoining :=
  (State.keeps.of_link s { s.link with begun := true } fun h => h.line _ _ _ _ _).trans
    (.of_peers _ _ (fun h => PeerMonitor.setPeer_own (s := s) s.own _ (fun _ k => k) h) id)

theorem execEnterJoining_keeps (s : State) : s.answersKept (execEnterJoining s) :=
  .tookLive s _ fun t => .ite (.refl t)
    ((t.beginJoining_keeps.trans (State.place_keeps _ _)).trans (State.handWaitingNotice_keeps _))

theorem execPrinterLimitStart_keeps (s : State) : s.answersKept (execPrinterLimitStart s) :=
  .tookLive s _ fun t => .ite (.refl t) t.startAnswerLimit_keeps

/-! ### The weighing channel -/

theorem execSample_keeps (message : List Byte) (s : State) : s.answersKept (execSample message s) := by
  refine .live s fun t => ?_
  split
  · exact .ite (t.takeCount_keeps _ _) (t.endScan_keeps _)
  · exact .refl t

theorem execChannelAnswerLimitExpiry_keeps (s : State) : s.answersKept (execChannelAnswerLimitExpiry s) := by
  refine .live s fun t => ?_
  split
  · exact t.endScan_keeps _
  · exact .refl t

theorem State.emptyWindow_keeps (s : State) : s.keeps s.emptyWindow :=
  .of_weigh s _ (fun h => ⟨h.unset, h.goods, h.faults⟩) id

theorem execWindowEmptyBeam_keeps (s : State) : s.answersKept (execWindowEmptyBeam s) :=
  .tookLive s _ State.emptyWindow_keeps

theorem State.reportCommand_moves (s : State) (c : OfficeCommand) (r : CommandResult) :
    s.movesLane (s.reportCommand c r) := (s.recordCommand_moves c r).trans (State.report_moves _)

theorem execZeroTest_keeps (s : State) : s.answersKept (execZeroTest s) :=
  .tookLive s _ fun t => t.testZero_keeps.trans (State.reportCommand_moves t.testZero.1 .zero t.testZero.2).keeps

/-! ### The deck sensor unit -/

theorem execRawInputChange_keeps (i : Input) (level : Bool) (s : State) : s.answersKept (execRawInputChange i level s) :=
  ⟨_, rfl, .ite (.refl s) (.ite ((State.keeps.of_deck s _).trans (.of_deck _ _)) (.of_deck s _))⟩

theorem execDebounceExpiry_keeps (i : Input) (s : State) : s.answersKept (execDebounceExpiry i s) := by
  refine .live s fun t => .ite ?_ (.refl t)
  have h : t.keeps (t.takeRaw i) := .of_deck t _
  exact .ite (h.trans (State.handActivation_keeps _ i)) (h.trans (State.handRelease_keeps _ i))

theorem execReady_keeps (s : State) : s.answersKept (execReady s) :=
  .tookLive s _ fun t => .ite (.refl t) ((State.keeps.of_deck t _).trans (State.testApproaches_keeps _))

theorem execCalHold_keeps (s : State) : s.answersKept (execCalHold s) := .tookLive s _ fun t => .of_deck t _

/-! ### The barrier units -/

theorem execUpLimitActivation_keeps (e : End) (s : State) : s.answersKept (execUpLimitActivation e s) :=
  .tookBarriers s _ fun t => (t.takeUpLimit_moves e).keeps

theorem execDownLimitActivation_keeps (e : End) (s : State) : s.answersKept (execDownLimitActivation e s) :=
  .tookBarriers s _ fun t => (t.takeDownLimit_moves e).keeps

theorem execLimitRelease_keeps (e : End) (l : Limit) (s : State) : s.answersKept (execLimitRelease e l s) :=
  ⟨_, rfl, s.took_keeps _⟩

theorem execBarrierSafetyActivation_keeps (e : End) (s : State) : s.answersKept (execBarrierSafetyActivation e s) :=
  .tookBarriers s _ fun t => (t.takeSafetyActivation_moves e).keeps

theorem execBarrierSafetyRelease_keeps (e : End) (s : State) : s.answersKept (execBarrierSafetyRelease e s) :=
  .tookBarriers s _ fun t => (t.takeSafetyRelease_moves e).keeps

theorem execMotorFaultActivation_keeps (e : End) (s : State) : s.answersKept (execMotorFaultActivation e s) :=
  .tookBarriers s _ fun t => (t.enterFault_moves e _).keeps

theorem execMotorFaultRelease_keeps (e : End) (s : State) : s.answersKept (execMotorFaultRelease e s) :=
  ⟨_, rfl, s.took_keeps _⟩

theorem execTravelTimerExpiry_keeps (e : End) (s : State) : s.answersKept (execTravelTimerExpiry e s) :=
  .barriers s fun t => (t.travelExpiry_moves e).keeps

theorem execFlashTick_keeps (s : State) : s.answersKept (execFlashTick s) :=
  .live s fun _ => .of_eq rfl rfl rfl rfl rfl rfl rfl rfl rfl rfl rfl rfl rfl

/-! ### The lane controller's events -/

/-- A lane operation made or not, as a condition decides. -/
theorem State.movesLane.ite {s a b : State} {c : Prop} [Decidable c] (h : s.movesLane a) (k : s.movesLane b) :
    s.movesLane (if c then a else b) := by
  split <;> assumption

theorem State.postHeldRequest_keeps (s : State) : s.keeps s.postHeldRequest := s.postIf_keeps _ _

theorem State.takeStartReport_keeps (s : State) (presence : Bool) : s.keeps (s.takeStartReport presence) := by
  unfold State.takeStartReport
  extract_lets l t
  have h : s.keeps t := .of_eq rfl rfl rfl rfl rfl rfl rfl rfl rfl rfl rfl rfl rfl
  exact .ite h ((h.trans (.ite t.enterDeckBlocked_moves.keeps t.enterIdle_moves.keeps)).trans (State.postHeldRequest_keeps _))

theorem execLaneStartReport_keeps (presence : Bool) (inputs : Vector Bool 14) (armed : Bool) (s : State) :
    s.answersKept (execLaneStartReport presence inputs armed s) :=
  .tookLive s _ fun t => .ite (.refl t) (t.takeStartReport_keeps presence)

theorem State.enterApproach_moves (s : State) (near : End) (direction : Direction) :
    s.movesLane (s.enterApproach near direction) := by
  unfold State.enterApproach
  extract_lets r t
  have h : s.movesLane t := (s.withRecord_moves _).trans (State.setState_moves _ _ _ _)
  exact (h.trans (.of_lane t { t.lane with idWait := some t.cfg.idWait } id rfl)).trans (State.report_moves _)

theorem execLaneApproachOffer_keeps (near : End) (direction : Direction) (s : State) :
    s.answersKept (execLaneApproachOffer near direction s) :=
  .tookLane s _ fun t => .ite (t.enterApproach_moves _ _).keeps (.refl t)

theorem State.clearIdWait_moves (s : State) : s.movesLane { s with lane := { s.lane with idWait := none } } :=
  .of_lane s _ id rfl

theorem execIdWaitExpiry_keeps (s : State) : s.answersKept (execIdWaitExpiry s) :=
  .lane s fun t => .ite (t.clearIdWait_moves.trans (State.enterAssist_moves _ _)).keeps (.refl t)

theorem State.takeReaderToken_moves (s : State) (token : Token) (category : Option Category) :
    s.movesLane (s.takeReaderToken token category) :=
  ((s.withRecord_moves _).trans (State.clearIdWait_moves _)).trans (State.raiseToBoard_moves _)

theorem execReaderMessage_keeps (message : List Byte) (s : State) : s.answersKept (execReaderMessage message s) := by
  refine .lane s fun t => ?_
  split
  · exact .ite (t.takeReaderToken_moves _ _).keeps (.refl t)
  · exact .refl t

theorem State.abandon_moves (s : State) : s.movesLane s.abandon := s.withdraw_moves.trans (State.enterIdle_moves _)

theorem State.presenceChanged_moves (s : State) (presence : Bool) : s.movesLane (s.presenceChanged presence) := by
  unfold State.presenceChanged
  split
  · exact s.boardingTest_moves
  · exact .ite (.refl s) s.abandon_moves
  · exact .ite (.refl s) s.abandon_moves
  · exact .ite (.refl s) s.abandon_moves
  · exact s.clearTest_moves
  · exact s.reversingTest_moves
  · exact .ite (.refl s) s.enterIdle_moves
  all_goals exact .refl s

theorem execLanePresenceChanged_keeps (presence : Bool) (s : State) :
    s.answersKept (execLanePresenceChanged presence s) :=
  .tookLane s _ fun t => (t.presenceChanged_moves presence).keeps

theorem State.safetyRelease_moves (s : State) (e : End) : s.movesLane (s.safetyRelease e) := by
  unfold State.safetyRelease
  split
  · exact .ite s.boardingTest_moves (.refl s)
  · exact .ite s.reversingTest_moves (.refl s)
  · exact .ite s.clearTest_moves (.refl s)
  · exact .refl s

theorem execLaneSafetyLoopEvent_keeps (e : End) (active : Bool) (s : State) :
    s.answersKept (execLaneSafetyLoopEvent e active s) :=
  .tookLane s _ fun t => .ite (.refl t) (t.safetyRelease_moves e).keeps

theorem execLaneBeamEvent_keeps (e : End) (active : Bool) (s : State) : s.answersKept (execLaneBeamEvent e active s) :=
  .tookLane s _ fun t => .ite t.boardingTest_moves.keeps (.refl t)

theorem State.arrivalUp_moves (s : State) (e : End) : s.movesLane (s.arrivalUp e) := by
  unfold State.arrivalUp
  split
  · exact .ite s.boardingTest_moves (.refl s)
  · exact .ite s.farUp_moves (.refl s)
  · exact .ite s.nearUp_moves (.refl s)
  · exact .refl s

theorem State.arrivalDown_moves (s : State) (e : End) : s.movesLane (s.arrivalDown e) := by
  unfold State.arrivalDown
  split
  · exact .ite s.enterIdle_moves (.refl s)
  · exact .ite s.enterIdle_moves (.refl s)
  · exact .refl s

theorem execLaneBarrierArrival_keeps (e : End) (place : Limit) (s : State) :
    s.answersKept (execLaneBarrierArrival e place s) := by
  refine .tookLane s _ fun t => ?_
  cases place
  · exact (t.arrivalUp_moves e).keeps
  · exact (t.arrivalDown_moves e).keeps

theorem execLaneBarrierFault_keeps (e : End) (reason : FaultReason) (s : State) :
    s.answersKept (execLaneBarrierFault e reason s) :=
  .tookLane s _ fun t => .ite t.report_keeps (t.enterAssist_moves _).keeps

theorem execNearApproachRelease_keeps (e : End) (s : State) : s.answersKept (execNearApproachRelease e s) :=
  .tookLane s _ fun t => .ite t.reversingTest_moves.keeps (.refl t)

theorem State.goOn_moves (s : State) : s.movesLane s.goOn := by
  unfold State.goOn
  split
  · exact s.goClaim_moves
  · exact s.doLookup_moves
  · exact .refl s

theorem State.copyCapture_moves (s : State) (weight : Nat) : s.movesLane (s.copyCapture weight) := .of_lane s _ id rfl

theorem execCapture_keeps (weight : Nat) (s : State) : s.answersKept (execCapture weight s) :=
  .tookLane s _ fun t => .ite ((t.copyCapture_moves _).trans (State.goOn_moves _)).keeps (.refl t)

theorem execLaneConverterFailed_keeps (s : State) : s.answersKept (execLaneConverterFailed s) :=
  .tookLane s _ fun t => .ite (t.enterAssist_moves _).keeps (.refl t)

theorem execStabilityLimitExpiry_keeps (s : State) : s.answersKept (execStabilityLimitExpiry s) :=
  .lane s fun t => .ite (t.enterAssist_moves _).keeps (.refl t)

theorem execStationActive_keeps (s : State) : s.answersKept (execStationActive s) :=
  .tookLane s _ fun t => .ite ((State.movesLane.of_lane t { t.lane with waitActive := false } id rfl).trans
    (State.goOn_moves _)).keeps (.refl t)

theorem State.framePlaced_moves (s : State) (kind : PlacedKind) : s.movesLane (s.framePlaced kind) := by
  unfold State.framePlaced
  extract_lets l t
  have h : s.movesLane t := (State.movesLane.of_lane s { s.lane with asked := none } id rfl).trans
    (State.closeCapture_moves _)
  cases kind
  · exact ((h.trans (State.withProgress_moves _ _)).trans (State.setState_moves _ _ _ _)).trans (State.report_moves _)
  · exact ((h.trans (State.withProgress_moves _ _)).trans (State.setState_moves _ _ _ _)).trans (State.report_moves _)

theorem execLaneFramePlaced_keeps (kind : PlacedKind) (number : VisitNumber) (s : State) :
    s.answersKept (execLaneFramePlaced kind number s) :=
  .tookLane s _ fun t => .ite (t.framePlaced_moves kind).keeps (.refl t)

theorem State.admitted_moves (s : State) : s.movesLane s.admitted :=
  .ite (((s.withProgress_moves _).trans (State.withRecord_moves _ _)).trans (State.startIssue_moves _))
    ((s.withProgress_moves _).trans (State.depart_moves _))

theorem State.applyPendingOrAssist_moves (s : State) (p : Progress) (r : Reason) :
    s.movesLane ((s.withProgress p).applyPendingOr fun s => s.enterAssist r) :=
  (s.withProgress_moves p).trans (State.applyPendingOr_moves _ _ (State.enterAssist_moves _ r))

theorem State.takeClaimOutcome_moves (s : State) (result : ClaimResult) : s.movesLane (s.takeClaimOutcome result) := by
  cases result
  case admitted => exact s.discardPending_moves.trans (State.admitted_moves _)
  case full => exact s.applyPendingOr_moves _ s.enterHeld_moves
  case duplicate => exact s.applyPendingOrAssist_moves _ _
  case notDelivered => exact s.applyPendingOrAssist_moves _ _

theorem State.takeAbandoned_moves (s : State) (number : VisitNumber) (result : ClaimResult) :
    s.movesLane (s.takeAbandoned number result) := by
  cases result
  case admitted => exact s.countOrphan_moves.trans (State.placeStatus_moves _ _)
  all_goals exact .refl s

theorem execClaimOutcome_keeps (number : VisitNumber) (result : ClaimResult) (s : State) :
    s.answersKept (execClaimOutcome number result s) :=
  .tookLane s _ fun t => .ite (t.takeClaimOutcome_moves result).keeps (t.takeAbandoned_moves number result).keeps

theorem State.closeFound_moves (s : State) : s.movesLane s.closeFound :=
  .ite ((s.withProgress_moves _).trans (State.depart_moves _)) ((s.withProgress_moves _).trans (State.startIssue_moves _))

theorem State.takeCloseOutcome_moves (s : State) (result : CloseResult) : s.movesLane (s.takeCloseOutcome result) := by
  cases result
  case found => exact s.discardPending_moves.trans (State.closeFound_moves _)
  case absent => exact s.applyPendingOrAssist_moves _ _
  case notDelivered => exact s.applyPendingOrAssist_moves _ _

theorem execCloseOutcome_keeps (number : VisitNumber) (result : CloseResult) (s : State) :
    s.answersKept (execCloseOutcome number result s) :=
  .tookLane s _ fun t => .ite (t.takeCloseOutcome_moves result).keeps (.refl t)

theorem execRemovalReport_keeps (number : VisitNumber) (s : State) : s.answersKept (execRemovalReport number s) :=
  .tookLane s _ fun t => .ite t.askReclaim_moves.keeps (.refl t)

theorem State.ticketQueued_moves (s : State) : s.movesLane s.ticketQueued := by
  unfold State.ticketQueued
  extract_lets l r t
  have h : s.movesLane t := .of_lane s _ id rfl
  exact .ite (h.trans t.depart_moves) h

theorem State.takeTicketAnswer_moves (s : State) (result : TicketResult) : s.movesLane (s.takeTicketAnswer result) := by
  unfold State.takeTicketAnswer
  split
  · exact s.ticketQueued_moves
  · exact s.ticketQueued_moves
  · exact s.ticketQueued_moves
  · exact s.enterAssist_moves _
  · exact .refl s

theorem execTicketAnswer_keeps (number : VisitNumber) (result : TicketResult) (s : State) :
    s.answersKept (execTicketAnswer number result s) :=
  .tookLane s _ fun t => .ite (t.takeTicketAnswer_moves result).keeps (.refl t)

theorem execLanePrinterState_keeps (printer : PrinterState) (s : State) :
    s.answersKept (execLanePrinterState printer s) :=
  .tookLane s _ fun t => .ite (t.raiseHelp_moves _).keeps (.refl t)

theorem execClearDeckLimitExpiry_keeps (s : State) : s.answersKept (execClearDeckLimitExpiry s) :=
  .lane s fun t => .ite ((State.movesLane.of_lane t { t.lane with clearDeckLimit := none } id rfl).trans
    (State.raiseHelp_moves _ _)).keeps (.refl t)

theorem execLaneHelpPress_keeps (s : State) : s.answersKept (execLaneHelpPress s) :=
  .tookLane s _ fun t => (t.raiseHelp_moves _).keeps

theorem State.answerHold_moves (s : State) (granted : Bool) : s.movesLane (s.answerHold granted) := .of_answers s _

theorem State.grantHold_keeps (s : State) : s.keeps s.grantHold := by
  unfold State.grantHold
  extract_lets l t
  have h : s.keeps t := (((State.movesLane.of_lane s { s.lane with calHold := true, sign := .stop } id rfl).trans
    (State.answerHold_moves _ _)).trans (State.post_moves _ _)).keeps
  split
  · exact .ite (h.trans (t.startMeasuring_keeps _)) h
  · exact h

theorem State.refuseHold_keeps (s : State) : s.keeps s.refuseHold := by
  unfold State.refuseHold
  extract_lets t
  have h : s.keeps t := (s.answerHold_moves false).keeps
  split
  · exact .ite (h.trans ((State.keeps.of_cal t _).trans (State.answer_keeps _ _ _))) h
  · exact h

theorem execCalHoldRequest_keeps (s : State) : s.answersKept (execCalHoldRequest s) :=
  .tookLane s _ fun t => .ite t.grantHold_keeps t.refuseHold_keeps

theorem execCalHoldRelease_keeps (s : State) : s.answersKept (execCalHoldRelease s) :=
  .tookLane s _ fun t => .ite ((State.movesLane.of_lane t { t.lane with calHold := false, sign := .blank } id rfl).trans
    (State.post_moves _ _)).keeps (.refl t)

/-! ### The office commands -/

theorem State.refuse_moves (s : State) (c : OfficeCommand) : s.movesLane (s.refuse c) := s.reportCommand_moves c .refused

theorem State.lookupAgain_moves (s : State) (token : Token) : s.movesLane (s.lookupAgain token) := by
  unfold State.lookupAgain
  extract_lets t
  have h : s.movesLane t := (s.withdraw_moves.trans (State.withRecord_moves _ _)).trans (State.doLookup_moves _)
  exact .ite (h.trans t.report_moves) h

theorem State.takeToken_moves (s : State) (token : Token) : s.movesLane (s.takeToken token) := by
  unfold State.takeToken
  refine .ite ?_ (.ite ((s.recordCommand_moves _ _).trans (State.lookupAgain_moves _ _)) (s.refuse_moves _))
  exact (((s.recordCommand_moves _ _).trans (State.withRecord_moves _ _)).trans (State.clearIdWait_moves _)).trans
    (State.raiseToBoard_moves _)

theorem execToken_keeps (target : Byte) (argument : List Byte) (s : State) :
    s.answersKept (execToken target argument s) := by
  refine .tookTarget s _ (fun t => ?_) target
  split
  · exact (t.takeToken_moves _).keeps
  · exact (t.refuse_moves _).keeps

theorem State.reopenCategory_moves (s : State) (c : Category) : s.movesLane (s.reopenCategory c) := by
  unfold State.reopenCategory
  refine .ite ((s.askClosed_moves c).trans (State.refuse_moves _ _)) ?_
  exact (((s.askClosed_moves c).trans (State.recordCommand_moves _ _ _)).trans (State.withRecord_moves _ _)).trans
    (State.enterWeighing_moves _)

theorem State.takeCategory_moves (s : State) (c : Category) : s.movesLane (s.takeCategory c) :=
  .ite (s.refuse_moves _) (.ite ((s.withRecord_moves _).trans (State.reportCommand_moves _ _ _))
    (.ite (s.reopenCategory_moves c) (s.refuse_moves _)))

theorem execCategory_keeps (target : Byte) (argument : List Byte) (s : State) :
    s.answersKept (execCategory target argument s) := by
  refine .tookTarget s _ (fun t => ?_) target
  split
  · exact (t.takeCategory_moves _).keeps
  · exact (t.refuse_moves _).keeps

theorem State.retryFresh_moves (s : State) : s.movesLane s.retryFresh :=
  .ite ((s.recordCommand_moves _ _).trans (State.enterWeighing_moves _))
    (.ite ((s.recordCommand_moves _ _).trans (State.raiseToBoard_moves _)) (s.refuse_moves _))

theorem State.resume_moves (s : State) : s.movesLane s.resume := by
  unfold State.resume
  extract_lets taken
  have h : s.movesLane taken := s.recordCommand_moves _ _
  split
  · exact s.retryFresh_moves
  · exact (h.trans (State.askReclaim_moves _)).trans (State.report_moves _)
  · exact (h.trans (State.askReclaim_moves _)).trans (State.report_moves _)
  · exact (h.trans (State.askCloseAgain_moves _)).trans (State.report_moves _)
  · exact h.trans (State.startIssue_moves _)
  · exact h.trans (State.startIssue_moves _)
  · exact h.trans (State.depart_moves _)
  · exact s.refuse_moves _

theorem execRetry_keeps (target : Byte) (argument : List Byte) (s : State) :
    s.answersKept (execRetry target argument s) :=
  .tookTarget s _ (fun t => .ite t.resume_moves.keeps (t.refuse_moves _).keeps) target

theorem State.takePass_moves (s : State) : s.movesLane s.takePass := by
  unfold State.takePass
  have applied : s.movesLane (s.recordCommand .pass .done).applyPass :=
    (s.recordCommand_moves _ _).trans (State.applyPass_moves _)
  split
  · exact s.hold_moves _
  · exact s.hold_moves _
  · exact applied
  · exact applied
  · exact applied
  · exact ((s.recordCommand_moves _ _).trans (State.withRecord_moves _ _)).trans (State.applyPass_moves _)
  · exact s.refuse_moves _

theorem execPass_keeps (target : Byte) (argument : List Byte) (s : State) : s.answersKept (execPass target argument s) :=
  .tookTarget s _ (fun t => t.takePass_moves.keeps) target

theorem State.takeBack_moves (s : State) : s.movesLane s.takeBack := by
  unfold State.takeBack
  have applied : s.movesLane (s.recordCommand .back .done).applyBack :=
    (s.recordCommand_moves _ _).trans (State.applyBack_moves _)
  split
  · exact s.hold_moves _
  · exact s.hold_moves _
  · exact applied
  · exact applied
  · exact applied
  · exact applied
  · exact applied
  · exact ((s.recordCommand_moves _ _).trans (State.withRecord_moves _ _)).trans (State.applyBack_moves _)
  · exact s.refuse_moves _

theorem execBack_keeps (target : Byte) (argument : List Byte) (s : State) : s.answersKept (execBack target argument s) :=
  .tookTarget s _ (fun t => t.takeBack_moves.keeps) target

theorem execZero_keeps (target : Byte) (argument : List Byte) (s : State) : s.answersKept (execZero target argument s) :=
  .tookTarget s _ (fun t => .ite (t.post_keeps _) (t.refuse_moves _).keeps) target

theorem execRaise_keeps (target : Byte) (argument : List Byte) (s : State) :
    s.answersKept (execRaise target argument s) := by
  refine .tookTarget s _ (fun t => ?_) target
  split
  · exact (t.refuse_moves _).keeps
  · exact .ite ((t.raise_moves _).trans (State.reportCommand_moves _ _ _)).keeps (t.refuse_moves _).keeps

theorem execLower_keeps (target : Byte) (argument : List Byte) (s : State) :
    s.answersKept (execLower target argument s) := by
  refine .tookTarget s _ (fun t => ?_) target
  split
  · exact (t.refuse_moves _).keeps
  · exact .ite ((t.lower_moves _).trans (State.reportCommand_moves _ _ _)).keeps (t.refuse_moves _).keeps

theorem execHelpAck_keeps (target : Byte) (argument : List Byte) (s : State) :
    s.answersKept (execHelpAck target argument s) :=
  .tookTarget s _ (fun t => .ite ((State.movesLane.of_lane t { t.lane with help := .acknowledged } id rfl).trans
    (State.reportCommand_moves _ _ _)).keeps (t.refuse_moves _).keeps) target

theorem execBarrierReset_keeps (target : Byte) (argument : List Byte) (s : State) :
    s.answersKept (execBarrierReset target argument s) := by
  refine .tookTarget s _ (fun t => ?_) target
  split
  · exact (t.refuse_moves _).keeps
  · exact ((State.movesLane.of_barriers (t.resetBarrier_moves _)).trans (State.reportCommand_moves _ _ _)).keeps

theorem State.unknownCommand_keeps (s : State) (target code : Byte) : s.keeps (s.unknownCommand target code) :=
  s.whenTarget_keeps target _ fun t => (t.refuse_moves _).keeps

/-! ### The ticket unit -/

/-- A copy placed changes the link controller and the entries of the queue, not their number. -/
theorem State.placeOldestCopy_shape (s : State) :
    ∃ l q, s.placeOldestCopy = { s with link := l, tickets := { s.tickets with queue := q } } ∧
      (s.link.Inv → l.Inv) ∧ q.length = s.tickets.queue.length := by
  unfold State.placeOldestCopy
  split
  · exact ⟨s.link, s.tickets.queue, rfl, id, rfl⟩
  · rename_i e he
    obtain ⟨l, hl, k⟩ := s.place_shape (ticketCopyFrame e.ticket)
    dsimp only
    split
    · exact ⟨l, _, by rw [hl], k, changeFirst_length _ _ _⟩
    · exact ⟨l, s.tickets.queue, by rw [hl], k, rfl⟩

/-- An entry added changes the link controller and the queue, which is one entry longer (R131, R139). -/
theorem State.enterQueue_shape (s : State) (t : TicketRecord) :
    ∃ l q, s.enterQueue t = { s with link := l, tickets := { s.tickets with queue := q } } ∧
      (s.link.Inv → l.Inv) ∧ q.length = s.tickets.queue.length + 1 := by
  unfold State.enterQueue
  extract_lets q u
  split
  · obtain ⟨l, q, e, k, hq⟩ := u.placeOldestCopy_shape
    exact ⟨l, q, e, k, by simp [hq, u]⟩
  · exact ⟨s.link, _, rfl, id, by simp⟩

/-- A change of the link controller and the ticket queue. -/
theorem State.keeps.of_link_tickets (s : State) (l : LinkState) (t : TicketState) (h : s.link.Inv → l.Inv)
    (k : s.tickets.placesTaken ≤ 4 → t.placesTaken ≤ 4) : s.keeps { s with link := l, tickets := t } :=
  (State.keeps.of_link s l h).trans (.of_tickets _ t k)

theorem State.reprint_keeps (s : State) : s.keeps s.reprint.1 := by
  unfold State.reprint
  split
  · exact .refl s
  · rename_i r hr
    split
    · exact .refl s
    · rename_i free
      obtain ⟨l, q, e, k, hq⟩ := s.enterQueue_shape r.asReprint
      refine State.keeps.trans ?_ (State.tryPrint_keeps _)
      rw [e]
      refine .of_link_tickets s l _ k fun _ => ?_
      simp only [TicketState.placesTaken, ticketPlaces, hq] at free ⊢
      omega

theorem execReprint_keeps (target : Byte) (argument : List Byte) (s : State) :
    s.answersKept (execReprint target argument s) :=
  .tookTarget s _ (fun t => t.reprint_keeps.trans (State.reportCommand_moves _ _ _).keeps) target

theorem execIssue_keeps (request : IssueRequest) (s : State) : s.answersKept (execIssue request s) := by
  refine .tookLive s _ fun t => ?_
  split
  · exact (State.keeps.of_tickets t { t.tickets with slot := some request } id).trans (State.workIssue_keeps _)
  · exact .ite (.refl t) (.of_tickets t _ id)

theorem execIssueWithdraw_keeps (number : VisitNumber) (s : State) : s.answersKept (execIssueWithdraw number s) :=
  .tookLive s _ fun t => .ite (.of_tickets t _ id) (.refl t)

/-- The place held for the commit becomes the new entry's (R131). -/
theorem State.ticketCommitted_keeps (s : State) (r : TicketRecord) (h : s.tickets.committing = some r) :
    s.keeps (s.ticketCommitted r) := by
  obtain ⟨l, q, e, k, hq⟩ := s.enterQueue_shape r
  unfold State.ticketCommitted
  refine State.keeps.trans ?_ (State.post_keeps _ _)
  rw [e]
  refine .of_link_tickets s l _ k fun _ => ?_
  simp only [TicketState.placesTaken, h, hq] at *
  simpa using ‹_›

theorem execBulkQueueDeparture_keeps (s : State) : s.answersKept (execBulkQueueDeparture s) :=
  .tookLive s _ fun t => t.placeOldestCopy_keeps.trans (State.leaveQueue_keeps _)

theorem execPrinterReady_keeps (s : State) : s.answersKept (execPrinterReady s) :=
  .live s fun t => .ite (.refl t) t.printerToReady_keeps

theorem execPrinterDone_keeps (s : State) : s.answersKept (execPrinterDone s) := by
  refine .live s fun t => ?_
  split
  · exact .ite ((((t.endPrinting_keeps _).trans (State.stopAnswerLimit_keeps _)).trans (State.tryPrint_keeps _)).trans
      (State.leaveQueue_keeps _)) (.refl t)
  · exact t.printerToReady_keeps
  · exact .refl t
  · exact .refl t

theorem execPrinterBusy_keeps (s : State) : s.answersKept (execPrinterBusy s) := by
  refine .live s fun t => ?_
  split
  · exact .ite t.startAnswerLimit_keeps (.refl t)
  · exact t.printerToReady_keeps
  · exact t.startAnswerLimit_keeps
  · exact t.startAnswerLimit_keeps

theorem execPrinterPaperOut_keeps (s : State) : s.answersKept (execPrinterPaperOut s) :=
  .live s fun t => t.printerTrouble_keeps _

theorem execPrinterFault_keeps (s : State) : s.answersKept (execPrinterFault s) :=
  .live s fun t => t.printerTrouble_keeps _

theorem execPrinterAnswerLimitExpiry_keeps (s : State) : s.answersKept (execPrinterAnswerLimitExpiry s) :=
  .live s fun t => .ite (.refl t) (.ite (.ite (t.printFailed_keeps _) (.refl t))
    ((t.sendPrinter_keeps _).trans (State.startAnswerLimit_keeps _)))

/-! ### The visit table unit -/

theorem execVisitOpen_keeps (source : Station) (payload : List Byte) (s : State) :
    s.answersKept (execVisitOpen source payload s) := by
  refine .tookYard s _ fun t => ?_
  split
  · exact t.countMalformed_keeps
  · exact (State.keeps.of_visits t _ fun h l => h.takeOpen _ _ l).trans (State.postIf_keeps _ _ _)

theorem execVisitClose_keeps (source : Station) (payload : List Byte) (s : State) :
    s.answersKept (execVisitClose source payload s) := by
  refine .tookYard s _ fun t => ?_
  split
  · exact t.countMalformed_keeps
  · exact (t.takeClose_keeps _).trans (State.postIf_keeps _ _ _)

theorem execVisitVoid_keeps (payload : List Byte) (s : State) : s.answersKept (execVisitVoid payload s) := by
  refine .tookYard s _ fun t => ?_
  split
  · exact t.countMalformed_keeps
  · exact .ite (t.removeVisit_keeps _) (.refl t)

theorem execVisitAnnounce_keeps (payload : List Byte) (s : State) : s.answersKept (execVisitAnnounce payload s) := by
  refine .tookYard s _ fun t => ?_
  split
  · exact t.countMalformed_keeps
  · exact .of_visits t _ fun h _ => h.takeAnnounce _

/-- The slot, the cursor's flag and the own sequence changed, which stays in its range (R92). -/
theorem VisitState.Inv.besideTable {v : VisitState} (h : v.Inv) {n : Nat} (f : Option SlotFrame) (b : Bool)
    (r : 1 ≤ n ∧ n ≤ 4095) : VisitState.Inv { v with sequence := n, slot := f, cursorEnabled := b } :=
  ⟨h.count, h.numbers, h.tokens, h.unmatched, h.conflicts, r, h.epoch⟩

theorem execClaimRequest_keeps (claim : Claim) (s : State) : s.answersKept (execClaimRequest claim s) := by
  refine .tookLane s _ fun t => ?_
  have h : t.keeps { t with visits := { t.visits with sequence := t.claimNumber.sequence } } :=
    .of_visits t _ fun h _ => h.besideTable _ _ (t.visits.freeSequence_range _ _ _ h.sequence)
  exact (h.trans (State.copyClaimNumber_keeps _ _)).trans (State.putSlot_keeps _ _ _)

theorem execReclaim_keeps (frame : LaneFrame) (s : State) : s.answersKept (execReclaim frame s) :=
  .tookLane s _ fun t => t.putSlot_keeps _ _

theorem execCloseRequest_keeps (number : VisitNumber) (s : State) : s.answersKept (execCloseRequest number s) :=
  .tookLane s _ fun t => t.putSlot_keeps _ _

theorem execFrameWithdraw_keeps (s : State) : s.answersKept (execFrameWithdraw s) :=
  .tookLive s _ fun t => .of_visits t _ fun h _ => h.besideTable _ _ h.sequence

theorem execLookup_keeps (token : Token) (s : State) : s.answersKept (execLookup token s) :=
  .lane s fun t => (State.movesLane.of_answers t _).keeps

theorem execVisitQueueDeparture_keeps (s : State) : s.answersKept (execVisitQueueDeparture s) := by
  refine .tookLive s _ fun t => ?_
  split
  · exact t.placeSlot_keeps
  · exact t.announce_keeps _
  · exact .refl t

theorem execCursorEnable_keeps (s : State) : s.answersKept (execCursorEnable s) :=
  .tookLive s _ fun t => .of_visits t _ fun h _ => h.besideTable _ _ h.sequence

theorem execCursorStart_keeps (joiner : Station) (s : State) : s.answersKept (execCursorStart joiner s) :=
  .tookLive s _ fun t => .ite ((Cursor.keeps t _).trans (State.postAdvance_keeps _)) (.refl t)

theorem execCursorAdvance_keeps (s : State) : s.answersKept (execCursorAdvance s) :=
  .tookLive s _ fun t => .ite t.advanceCursor_keeps (.refl t)

/-! ### The tare and tariff store -/

theorem execTareSet_keeps (payload : List Byte) (s : State) : s.answersKept (execTareSet payload s) := by
  refine .tookYard s _ fun t => ?_
  split
  · exact .of_store t _ (t.store.store_length _)
  · exact t.countMalformed_keeps

theorem execTareDrop_keeps (payload : List Byte) (s : State) : s.answersKept (execTareDrop payload s) := by
  refine .tookYard s _ fun t => ?_
  split
  · exact .of_store t _ fun h => Nat.le_trans (t.store.drop_le _) h
  · exact t.countMalformed_keeps

theorem execTariffSet_keeps (payload : List Byte) (s : State) : s.answersKept (execTariffSet payload s) := by
  refine .tookYard s _ fun t => ?_
  split
  · exact .of_store t _ id
  · exact t.countMalformed_keeps

theorem execCategoryResolution_keeps (token : Token) (reader : Option Category) (s : State) :
    s.answersKept (execCategoryResolution token reader s) :=
  .lane s fun t => (t.resolveCategory_moves _ _).keeps

theorem execClosedQuestion_keeps (c : Category) (s : State) : s.answersKept (execClosedQuestion c s) :=
  .lane s fun t => (t.askClosed_moves _).keeps

theorem execKindRequest_keeps (token : Token) (c : Category) (s : State) :
    s.answersKept (execKindRequest token c s) :=
  .lane s fun t => (t.requestKind_moves _ _).keeps

/-! ### The link controller -/

theorem execLineFree_keeps (s : State) : s.answersKept (execLineFree s) :=
  .live s fun t => .ite ((State.keeps.of_link t _ fun h => h.line _ _ _ _ _).trans (State.tryStart_keeps _)) (.refl t)

theorem execFrameStartHeard_keeps (s : State) : s.answersKept (execFrameStartHeard s) :=
  .live s fun t => .ite (.of_link t _ fun h => h.line _ _ _ _ _) (.refl t)

theorem execArbitrationLost_keeps (s : State) : s.answersKept (execArbitrationLost s) :=
  .live s fun t => .ite (.of_link t _ fun h => h.line _ _ _ _ _) (.refl t)

theorem execReadbackMismatch_keeps (s : State) : s.answersKept (execReadbackMismatch s) := by
  refine .live s fun t => ?_
  split
  · exact t.failAttempt_keeps _
  · exact .refl t

theorem execDelivery_keeps (s : State) : s.answersKept (execDelivery s) := by
  refine .live s fun t => ?_
  split
  · exact t.deliver_keeps _
  · exact .refl t

theorem execFrameEnd_keeps (f : HeardFrame) (s : State) : s.answersKept (execFrameEnd f s) :=
  .live s fun t => .ite ((State.keeps.of_link t _ fun h => h.line _ _ _ _ _).trans (State.takeHeard_keeps _ _)) (.refl t)

/-! ### Peers and the depot clock -/

theorem execPeerHeard_keeps (source : Station) (s : State) : s.answersKept (execPeerHeard source s) :=
  .tookYard s _ fun t => .of_peers t _ (PeerMonitor.setPeer_own _ _ fun _ _ => rfl) id

theorem State.recordPeer_keeps (s : State) (source : Station) (bootCount : Nat) (active starts : Bool) :
    s.keeps (s.recordPeer source bootCount active starts) :=
  (State.keeps.of_peers s _ (PeerMonitor.setPeer_own _ _ fun e h => by subst e; exact h) id).trans
    (State.postIf_keeps _ _ _)

theorem execHello_keeps (source : Station) (payload : List Byte) (s : State) :
    s.answersKept (execHello source payload s) :=
  .tookYard s _ fun t => .ite (t.recordPeer_keeps _ _ _ _) t.countMalformed_keeps

theorem execPresence_keeps (source : Station) (payload : List Byte) (s : State) :
    s.answersKept (execPresence source payload s) :=
  .tookYard s _ fun t => .ite (t.recordPeer_keeps _ _ _ _) t.countMalformed_keeps

/-- A TIME-SET leaves the clock in its range: its day is a number on 2 bytes, and a second out of range is ignored
(R169). -/
theorem clockAfterSet_valid (payload : List Byte) (clock : Option DepotTime)
    (h : ∀ t, clock = some t → t.valid = true) : ∀ t, clockAfterSet payload clock = some t → t.valid = true := by
  unfold clockAfterSet
  extract_lets second
  split
  · rename_i hs
    rintro t ⟨⟩
    have day : fromBe (field payload 0 2) < 256 ^ 2 :=
      Nat.lt_of_lt_of_le (fromBe_lt _) (Nat.pow_le_pow_right (by decide) (by simp [field]))
    simpa [DepotTime.valid, hs] using day
  · exact h

theorem execTimeSet_keeps (payload : List Byte) (s : State) : s.answersKept (execTimeSet payload s) :=
  .tookYard s _ fun t => .ite (.of_peers t _ id (clockAfterSet_valid payload _)) t.countMalformed_keeps

theorem execJoinWindowExpiry_keeps (s : State) : s.answersKept (execJoinWindowExpiry s) := by
  refine .live s fun t => .ite ?_ (.refl t)
  refine .trans (.trans ?_ (State.post_keeps _ .stationActive)) (State.post_keeps _ .cursorEnable)
  exact .of_peers t _ (PeerMonitor.setPeer_own (s := t) t.own _ fun _ h => h) id

theorem execHeartbeatExpiry_keeps (s : State) : s.answersKept (execHeartbeatExpiry s) :=
  .live s fun t => .ite ((t.place_keeps _).trans (.of_peers _ _ id id)) (.refl t)

/-- The own entry does not age (R163). -/
theorem agedTable_own (own : Station) (limit : Nat) (table : Vector Peer 16) :
    (agedTable own limit table)[own] = table[own] := by
  simp [agedTable]

theorem execPeerTick_keeps (s : State) : s.answersKept (execPeerTick s) :=
  .live s fun t => .ite (.of_peers t _ (fun h => by rw [agedTable_own]; exact h) id) (.refl t)

theorem execClockTick_keeps (s : State) : s.answersKept (execClockTick s) := by
  refine .live s fun t => .of_peers t _ id fun h u hu => ?_
  obtain ⟨v, hv, rfl⟩ := Option.map_eq_some_iff.1 hu
  exact DepotTime.valid_on v (h v hv)

/-! ### The calibration store -/

theorem execCalRead_keeps (s : State) : s.answersKept (execCalRead s) := .live s fun t => t.answer_keeps _ _
theorem execStatus_keeps (s : State) : s.answersKept (execStatus s) := .live s fun t => t.answer_keeps _ _

theorem execCalZero_keeps (s : State) : s.answersKept (execCalZero s) :=
  .live s fun t => t.unlessHeld_keeps _ _ fun t => .ite (t.answer_keeps _ _) (t.askHold_keeps _)

theorem execCalSpan_keeps (mass : BitVec 24) (s : State) : s.answersKept (execCalSpan mass s) :=
  .live s fun t => t.unlessHeld_keeps _ _ fun t => .ite (t.askHold_keeps _) (t.answer_keeps _ _)

theorem execCalCorner_keeps (channel : Byte) (factor : BitVec 24) (s : State) :
    s.answersKept (execCalCorner channel factor s) := by
  refine .live s fun t => t.unlessHeld_keeps _ _ fun t => ?_
  split
  · exact t.commitRequest_keeps _ _
  · exact t.answer_keeps _ _

theorem execCalInterval_keeps (interval : Byte) (capacity : BitVec 24) (s : State) :
    s.answersKept (execCalInterval interval capacity s) :=
  .live s fun t => t.unlessHeld_keeps _ _ fun t => .ite (t.commitRequest_keeps _ _) (t.answer_keeps _ _)

theorem execCalLock_keeps (s : State) : s.answersKept (execCalLock s) :=
  .live s fun t => t.unlessHeld_keeps _ _ fun t => .ite (t.commitRequest_keeps _ _) (t.answer_keeps _ _)

theorem execCalErase_keeps (s : State) : s.answersKept (execCalErase s) :=
  .live s fun t => t.unlessHeld_keeps _ _ fun t => t.commitRequest_keeps _ _

theorem execBadServiceRequest_keeps (s : State) : s.answersKept (execBadServiceRequest s) :=
  .live s fun t => t.unlessHeld_keeps _ _ fun t => t.answer_keeps _ _

theorem execCalScan_keeps (sample : CalSample) (s : State) : s.answersKept (execCalScan sample s) := by
  refine .tookLive s _ fun t => ?_
  split
  · exact t.measureTakes_keeps _ _
  · exact .refl t

theorem execCalInterrupt_keeps (cause : CalBreak) (s : State) : s.answersKept (execCalInterrupt cause s) := by
  refine .tookLive s _ fun t => ?_
  split
  · exact .ite (t.endMeasurement_keeps _) (.refl t)
  · exact .refl t

theorem execRoutineQueueDeparture_keeps (s : State) : s.answersKept (execRoutineQueueDeparture s) :=
  .tookLive s _ State.handWaitingNotice_keeps

/-! ### Every command but six -/

/-- RESET, the completions of the three kinds of commit and the reading of the configuration memory: the commands that
may change the straps, the configuration or the retained values (R181, R185 to R188). -/
def writesKept : Instr → Bool
  | .reset _ _ _ => true
  | .bootCountCommitDone => true
  | .configByte _ => true
  | .configByteTimeout => true
  | .ticketCommitDone => true
  | .calCommitDone => true
  | _ => false

theorem exec_keeps (i : Instr) (s : State) (h : writesKept i = false) : s.answersKept (exec i s) := by
  cases i
  case reset | bootCountCommitDone | configByte | configByteTimeout | ticketCommitDone | calCommitDone => cases h
  case firstScan => exact execFirstScan_keeps s
  case firstSample => exact execFirstSample_keeps s
  case calStartCheck => exact execCalStartCheck_keeps s
  case enterJoining => exact execEnterJoining_keeps s
  case printerLimitStart => exact execPrinterLimitStart_keeps s
  case sample => exact execSample_keeps _ s
  case channelAnswerLimitExpiry => exact execChannelAnswerLimitExpiry_keeps s
  case windowEmptyBeam => exact execWindowEmptyBeam_keeps s
  case zeroTest => exact execZeroTest_keeps s
  case rawInputChange => exact execRawInputChange_keeps _ _ s
  case debounceExpiry => exact execDebounceExpiry_keeps _ s
  case ready => exact execReady_keeps s
  case calHold => exact execCalHold_keeps s
  case upLimitActivation => exact execUpLimitActivation_keeps _ s
  case downLimitActivation => exact execDownLimitActivation_keeps _ s
  case limitRelease => exact execLimitRelease_keeps _ _ s
  case barrierSafetyActivation => exact execBarrierSafetyActivation_keeps _ s
  case barrierSafetyRelease => exact execBarrierSafetyRelease_keeps _ s
  case motorFaultActivation => exact execMotorFaultActivation_keeps _ s
  case motorFaultRelease => exact execMotorFaultRelease_keeps _ s
  case travelTimerExpiry => exact execTravelTimerExpiry_keeps _ s
  case barrierReset => exact execBarrierReset_keeps _ _ s
  case flashTick => exact execFlashTick_keeps s
  case laneStartReport => exact execLaneStartReport_keeps _ _ _ s
  case laneApproachOffer => exact execLaneApproachOffer_keeps _ _ s
  case idWaitExpiry => exact execIdWaitExpiry_keeps s
  case readerMessage => exact execReaderMessage_keeps _ s
  case lanePresenceChanged => exact execLanePresenceChanged_keeps _ s
  case laneSafetyLoopEvent => exact execLaneSafetyLoopEvent_keeps _ _ s
  case laneBeamEvent => exact execLaneBeamEvent_keeps _ _ s
  case laneBarrierArrival => exact execLaneBarrierArrival_keeps _ _ s
  case laneBarrierFault => exact execLaneBarrierFault_keeps _ _ s
  case capture => exact execCapture_keeps _ s
  case laneConverterFailed => exact execLaneConverterFailed_keeps s
  case stabilityLimitExpiry => exact execStabilityLimitExpiry_keeps s
  case stationActive => exact execStationActive_keeps s
  case laneFramePlaced => exact execLaneFramePlaced_keeps _ _ s
  case claimOutcome => exact execClaimOutcome_keeps _ _ s
  case closeOutcome => exact execCloseOutcome_keeps _ _ s
  case removalReport => exact execRemovalReport_keeps _ s
  case ticketAnswer => exact execTicketAnswer_keeps _ _ s
  case lanePrinterState => exact execLanePrinterState_keeps _ s
  case clearDeckLimitExpiry => exact execClearDeckLimitExpiry_keeps s
  case laneHelpPress => exact execLaneHelpPress_keeps s
  case calHoldRequest => exact execCalHoldRequest_keeps s
  case calHoldRelease => exact execCalHoldRelease_keeps s
  case token => exact execToken_keeps _ _ s
  case category => exact execCategory_keeps _ _ s
  case retry => exact execRetry_keeps _ _ s
  case pass => exact execPass_keeps _ _ s
  case back => exact execBack_keeps _ _ s
  case zero => exact execZero_keeps _ _ s
  case raise => exact execRaise_keeps _ _ s
  case lower => exact execLower_keeps _ _ s
  case helpAck => exact execHelpAck_keeps _ _ s
  case reprint => exact execReprint_keeps _ _ s
  case visitOpen => exact execVisitOpen_keeps _ _ s
  case visitClose => exact execVisitClose_keeps _ _ s
  case visitVoid => exact execVisitVoid_keeps _ s
  case visitAnnounce => exact execVisitAnnounce_keeps _ s
  case claimRequest => exact execClaimRequest_keeps _ s
  case reclaim => exact execReclaim_keeps _ s
  case closeRequest => exact execCloseRequest_keeps _ s
  case frameWithdraw => exact execFrameWithdraw_keeps s
  case lookup => exact execLookup_keeps _ s
  case visitQueueDeparture => exact execVisitQueueDeparture_keeps s
  case cursorEnable => exact execCursorEnable_keeps s
  case cursorStart => exact execCursorStart_keeps _ s
  case cursorAdvance => exact execCursorAdvance_keeps s
  case tareSet => exact execTareSet_keeps _ s
  case tareDrop => exact execTareDrop_keeps _ s
  case tariffSet => exact execTariffSet_keeps _ s
  case categoryResolution => exact execCategoryResolution_keeps _ _ s
  case closedQuestion => exact execClosedQuestion_keeps _ s
  case kindRequest => exact execKindRequest_keeps _ _ s
  case issue => exact execIssue_keeps _ s
  case issueWithdraw => exact execIssueWithdraw_keeps _ s
  case bulkQueueDeparture => exact execBulkQueueDeparture_keeps s
  case printerReady => exact execPrinterReady_keeps s
  case printerDone => exact execPrinterDone_keeps s
  case printerBusy => exact execPrinterBusy_keeps s
  case printerPaperOut => exact execPrinterPaperOut_keeps s
  case printerFault => exact execPrinterFault_keeps s
  case printerAnswerLimitExpiry => exact execPrinterAnswerLimitExpiry_keeps s
  case lineFree => exact execLineFree_keeps s
  case frameStartHeard => exact execFrameStartHeard_keeps s
  case arbitrationLost => exact execArbitrationLost_keeps s
  case readbackMismatch => exact execReadbackMismatch_keeps s
  case delivery => exact execDelivery_keeps s
  case frameEnd => exact execFrameEnd_keeps _ s
  case peerHeard => exact execPeerHeard_keeps _ s
  case hello => exact execHello_keeps _ _ s
  case presence => exact execPresence_keeps _ _ s
  case timeSet => exact execTimeSet_keeps _ s
  case joinWindowExpiry => exact execJoinWindowExpiry_keeps s
  case heartbeatExpiry => exact execHeartbeatExpiry_keeps s
  case peerTick => exact execPeerTick_keeps s
  case clockTick => exact execClockTick_keeps s
  case calRead => exact execCalRead_keeps s
  case status => exact execStatus_keeps s
  case calZero => exact execCalZero_keeps s
  case calSpan => exact execCalSpan_keeps _ s
  case calCorner => exact execCalCorner_keeps _ _ s
  case calInterval => exact execCalInterval_keeps _ _ s
  case calLock => exact execCalLock_keeps s
  case calErase => exact execCalErase_keeps s
  case calScan => exact execCalScan_keeps _ s
  case calInterrupt => exact execCalInterrupt_keeps _ s
  case routineQueueDeparture => exact execRoutineQueueDeparture_keeps s
  case nearApproachRelease => exact execNearApproachRelease_keeps _ s
  case badServiceRequest => exact execBadServiceRequest_keeps s

end Sys2Proof.Machine
end

section
/-! PROOFS. Every step keeps the invariants of every block, and they hold after reset. -/

namespace Sys2Proof.Machine

theorem State.keeps.inv {s t : State} (h : s.keeps t) (i : s.Inv) : t.Inv where
  link := h.link i.link
  visits := ⟨h.visits i.visits.1 i.visits.2, by rw [h.cfg]; exact i.visits.2⟩
  tickets := h.tickets i.tickets
  barriers := h.barriers i.barriers
  weigh := h.weigh i.weigh
  zero := h.zero i.zero
  tares := h.tares i.tares
  orphans := h.orphans i.orphans
  own := h.own i.own
  clock := h.clock i.clock

theorem State.Inv.whenLive {s : State} (i : s.Inv) {f : State → State} (h : ∀ t : State, t.Inv → (f t).Inv) :
    (s.whenLive f).Inv := by
  unfold State.whenLive
  split
  · exact h s i
  · exact i

/-! ### RESET -/

theorem LinkState.inv_initial : LinkState.Inv {} where
  urgent := ⟨by decide, by decide⟩
  visit := ⟨by decide, by decide⟩
  routine := ⟨by decide, by decide⟩
  bulk := ⟨by decide, by decide⟩
  badCheck := by decide
  drops := by decide
  malformed := by decide
  statusDiscards := by decide
  helpLost := by decide

theorem VisitState.inv_initial : VisitState.Inv {} := ⟨by decide, by decide, by decide, by decide, by decide, by decide, by decide⟩

theorem BarrierUnit.inv_initial : BarrierUnit.Inv {} := ⟨by decide, by decide, by decide⟩

theorem WeighState.inv_initial : WeighState.Inv {} := ⟨fun _ => rfl, by decide, by decide⟩

/-- The own entry of the table that a reset leaves is LIVE (R161). -/
theorem tableAfterReset_own (own : Station) (station : StationState) :
    ((tableAfterReset own station)[own]).state = .live := by
  simp [tableAfterReset]

/-- The invariants hold of a station whose blocks are as at reset, with any straps, retained values and field lines. -/
theorem State.inv_of_initial (loader : Loader) (retained : Retained) (deck : DeckState) (peers : PeerMonitor)
    (pending : List Instr) (own : (peers.table[loader.station]).state = .live) (clock : peers.clock = none) :
    State.Inv { loader, retained, deck, peers, pending } where
  link := LinkState.inv_initial
  visits := ⟨VisitState.inv_initial, show 40 ≤ 96 by decide⟩
  tickets := Nat.zero_le _
  barriers := ⟨BarrierUnit.inv_initial, BarrierUnit.inv_initial⟩
  weigh := WeighState.inv_initial
  zero := zeroRangeOf_nonneg _
  tares := Nat.zero_le _
  orphans := Nat.zero_le _
  own := own
  clock := fun t h => by simp [clock] at h

theorem State.inv_reset : State.reset.Inv := State.inv_of_initial _ _ _ _ _ (by decide) rfl

theorem execReset_inv (number : BitVec 4) (role : BitVec 2) (completes : Bool) (s t : State)
    (h : execReset number role completes s = .next t) : t.Inv := by
  cases h
  exact State.inv_of_initial _ _ _ _ _ (tableAfterReset_own _ _) rfl

/-! ### The values in force (R186, R188, R189) -/

theorem execBootCountCommitDone_inv (s t : State) (i : s.Inv) (h : execBootCountCommitDone s = .next t) : t.Inv := by
  cases h
  split
  · rename_i n _
    exact {
      link := i.link
      visits := ⟨⟨i.visits.1.count, i.visits.1.numbers, i.visits.1.tokens, i.visits.1.unmatched, i.visits.1.conflicts,
        i.visits.1.sequence, Nat.mod_lt _ (by decide)⟩, i.visits.2⟩
      tickets := i.tickets
      barriers := i.barriers
      weigh := i.weigh
      zero := i.zero
      tares := i.tares
      orphans := i.orphans
      own := PeerMonitor.setPeer_own (s := s) s.own _ (fun _ k => k) i.own
      clock := i.clock }
  · exact i

theorem clampNat_le {lo hi : Nat} (h : lo ≤ hi) (v : Nat) : clampNat lo hi v ≤ hi := by
  unfold clampNat
  split
  · exact h
  · split <;> omega

/-- The own entry is LIVE with the values in force too, which set its reported station state only (R161). -/
theorem State.peersInForce_own (s : State) (h : s.ownEntryInv) : (s.peersInForce.table[s.own]).state = .live := by
  unfold State.peersInForce
  split
  · exact h
  · exact PeerMonitor.setPeer_own (s := s) s.own _ (fun _ k => k) h

theorem State.peersInForce_clock (s : State) : s.peersInForce.clock = s.peers.clock := by
  unfold State.peersInForce
  split <;> rfl

theorem State.settle_inv (s : State) (cfg : Settings) (byDefault : Bool) (i : s.Inv) (limit : cfg.yardLimit ≤ 96) :
    (s.settle cfg byDefault).Inv where
  link := i.link
  visits := ⟨i.visits.1, limit⟩
  tickets := i.tickets
  barriers := i.barriers
  weigh := i.weigh
  zero := i.zero
  tares := i.tares
  orphans := by
    have same : (s.settle cfg byDefault).lane.orphans = s.lane.orphans := by unfold State.settle; dsimp only; split <;> rfl
    unfold State.orphanInv
    rw [same]
    exact i.orphans
  own := s.peersInForce_own i.own
  clock := fun t h => i.clock t (by rw [← s.peersInForce_clock]; exact h)

/-- The loader's own fields are none of the invariants' but for the station number. -/
theorem State.Inv.withLoader {s : State} (i : s.Inv) (l : Loader) (h : l.station = s.loader.station) :
    State.Inv { s with loader := l } where
  link := i.link
  visits := i.visits
  tickets := i.tickets
  barriers := i.barriers
  weigh := i.weigh
  zero := i.zero
  tares := i.tares
  orphans := i.orphans
  own := by simpa only [State.ownEntryInv, State.own, h] using i.own
  clock := i.clock

theorem execConfigByte_inv (byte : Byte) (s t : State) (i : s.Inv) (h : execConfigByte byte s = .next t) : t.Inv := by
  cases h
  split
  · extract_lets image l u
    have hu : u.Inv := i.withLoader _ rfl
    split
    · unfold State.settleImage
      split
      · exact u.settle_inv _ _ hu (clampNat_le (by decide) _)
      · exact u.settle_inv _ _ hu (by decide)
    · exact hu
  · exact i

theorem execConfigByteTimeout_inv (s t : State) (i : s.Inv) (h : execConfigByteTimeout s = .next t) : t.Inv := by
  cases h
  split
  · exact s.settle_inv _ _ i (by decide)
  · exact i

/-! ### Commits that complete (R131, R178 to R182, R187) -/

/-- A change of the retained values that leaves the capacity as it is. -/
theorem State.Inv.withRetained {s : State} (i : s.Inv) (r : Retained) (h : r.cal.capacity = s.retained.cal.capacity) :
    State.Inv { s with retained := r } where
  link := i.link
  visits := i.visits
  tickets := i.tickets
  barriers := i.barriers
  weigh := i.weigh
  zero := by unfold State.zeroInv; dsimp only; rw [h]; exact i.zero
  tares := i.tares
  orphans := i.orphans
  own := i.own
  clock := i.clock

theorem execTicketCommitDone_inv (s t : State) (i : s.Inv) (h : execTicketCommitDone s = .next t) : t.Inv := by
  cases h
  refine i.whenLive fun s i => ?_
  split
  · extract_lets r u
    have hu : u.Inv := i.withRetained _ rfl
    split
    · exact hu
    · rename_i r hr
      exact (((u.ticketCommitted_keeps r hr).trans (State.tryPrint_keeps _)).trans (State.workIssue_keeps _)).inv hu
  · exact i

/-- A write leaves Z in its range and 0 where it is UNSET: one that changes the capacity sets Z to 0 (R180, R182). -/
theorem WeighState.afterWrite_inv (w : WeighState) (c : CalWrite) (i : w.Inv) : (w.afterWrite c).Inv := by
  cases c <;> exact ⟨by simp_all [WeighState.afterWrite, i.unset], i.goods, i.faults⟩

theorem WeighState.afterWrite_range (w : WeighState) (r : Retained) (c : CalWrite)
    (i : (w.zero.natAbs : Int) ≤ zeroRangeOf r.cal.capacity) :
    (((w.afterWrite c).zero).natAbs : Int) ≤ zeroRangeOf (r.write c).cal.capacity := by
  cases c
  case zero | interval | erase | startErase => exact zeroRangeOf_nonneg _
  case span | corner | lock | flagUnverified => exact i

theorem State.oweNotice_keeps (s : State) (n : Option NoticeEvent) : s.keeps (s.oweNotice n) := by
  unfold State.oweNotice
  split
  · exact .refl s
  · exact s.handNotice_keeps _

theorem State.endRequest_keeps (s : State) (w : CalWrite) : s.keeps (s.endRequest w) :=
  .ite (.ite (s.endMeasurement_keeps _) ((State.keeps.of_cal s _).trans (State.answer_keeps _ _ _))) (.refl s)

theorem State.applyWrite_inv (s : State) (w : CalWrite) (i : s.Inv) : (s.applyWrite w).Inv := by
  unfold State.applyWrite
  refine ((State.oweNotice_keeps _ _).trans (State.endRequest_keeps _ _)).inv ?_
  exact {
    link := i.link
    visits := i.visits
    tickets := i.tickets
    barriers := i.barriers
    weigh := s.weigh.afterWrite_inv w i.weigh
    zero := s.weigh.afterWrite_range s.retained w i.zero
    tares := i.tares
    orphans := i.orphans
    own := i.own
    clock := i.clock }

theorem execCalCommitDone_inv (s t : State) (i : s.Inv) (h : execCalCommitDone s = .next t) : t.Inv := by
  cases h
  refine i.whenLive fun s i => ?_
  split
  · exact s.applyWrite_inv _ i
  · exact i

/-! ### The step -/

theorem exec_inv (i : Instr) (s t : State) (h : s.Inv) (e : exec i s = .next t) : t.Inv := by
  cases w : writesKept i
  case false =>
    obtain ⟨u, hu, k⟩ := exec_keeps i s w
    cases hu.symm.trans e
    exact k.inv h
  case true =>
    cases i
    case reset => exact execReset_inv _ _ _ s t e
    case bootCountCommitDone => exact execBootCountCommitDone_inv s t h e
    case configByte => exact execConfigByte_inv _ s t h e
    case configByteTimeout => exact execConfigByteTimeout_inv s t h e
    case ticketCommitDone => exact execTicketCommitDone_inv s t h e
    case calCommitDone => exact execCalCommitDone_inv s t h e
    all_goals cases w

/-- The queues of commands and of events given are none of the invariants'. -/
theorem State.Inv.withQueues {s : State} (i : s.Inv) (posted : List Posted) (pending : List Instr) :
    State.Inv { s with posted, pending } where
  link := i.link
  visits := i.visits
  tickets := i.tickets
  barriers := i.barriers
  weigh := i.weigh
  zero := i.zero
  tares := i.tares
  orphans := i.orphans
  own := i.own
  clock := i.clock

/-- Settles O58: a step is a command, an event given, a LANE-COMMAND of an unknown kind, or idling. -/
theorem everyStepKeepsTheInvariants : Obligations.EveryStepKeepsTheInvariants := by
  intro s t i h
  unfold step at h
  split at h
  · exact exec_inv _ _ t (i.withQueues s.posted _) h
  · unfold State.takePosted at h
    split at h
    · cases h; exact i
    · exact exec_inv _ s t i h
    · cases h; exact (State.unknownCommand_keeps _ _ _).inv (i.withQueues _ s.pending)

/-- Settles O59. -/
theorem resetMeetsTheInvariants : Obligations.ResetMeetsTheInvariants := State.inv_reset

end Sys2Proof.Machine
end

section
/-! PROOFS. RESET, the state a new part starts from, and the first events of the blocks (chapter 11). -/

namespace Sys2Proof.Machine

/-! ### RESET (R185 to R187) -/

theorem roleOfStraps_offline : ∀ role : BitVec 2, roleOfStraps role = .offline ↔ role = 3#2 := by decide

theorem toFin_eq_zero : ∀ number : BitVec 4, (number.toFin : Station) = 0 ↔ number = 0#4 := by decide

/-- The station state after a reset, read off the straps themselves (R171, R185). -/
theorem stationAfterReset_straps (number : BitVec 4) (role : BitVec 2) :
    stationAfterReset number.toFin (roleOfStraps role) = if role = 3#2 ∨ number = 0#4 then .offline else .joining := by
  unfold stationAfterReset
  exact if_congr (or_congr (roleOfStraps_offline role) (toFin_eq_zero number)) rfl rfl

theorem tableAfterReset_straps (number : BitVec 4) (role : BitVec 2) :
    tableAfterReset number.toFin (stationAfterReset number.toFin (roleOfStraps role)) =
      (Vector.replicate 16 ({} : Peer)).set number.toFin {
        state := .live, reportedActive := if role = 3#2 ∨ number = 0#4 then none else some false } := by
  rw [stationAfterReset_straps, tableAfterReset]
  by_cases h : role = 3#2 ∨ number = 0#4 <;> simp only [h, if_true, if_false, reduceCtorEq]

/-- A commit that does not complete, or none, leaves the retained values (R187). -/
theorem Retained.afterReset_kept (r : Retained) (completes : Bool) (h : completes = false ∨ r.commits = []) :
    r.afterReset completes = { r with commits := [.bootCount ((r.bootCount + 1) % 4294967296)] } := by
  unfold Retained.afterReset
  cases hc : r.commits with
  | nil => rfl
  | cons c rest =>
    obtain rfl : completes = false := by simpa [hc] using h
    rfl

/-- The running commit that completes stands, and those behind it are lost (R187). -/
theorem Retained.afterReset_completes (r : Retained) (c : Commit) (rest : List Commit) (h : r.commits = c :: rest) :
    r.afterReset true =
      { r.complete c with commits := [.bootCount (((r.complete c).bootCount + 1) % 4294967296)] } := by
  simp only [Retained.afterReset, h, List.head?_cons, if_true]
  rfl

/-- Settles O3. -/
theorem resetStartsEveryBlock : Obligations.ResetStartsEveryBlock := by
  intro number role completes s byStraps started
  have leaves (r : Retained)
      (h : s.retained.afterReset completes = { r with commits := [.bootCount ((r.bootCount + 1) % 4294967296)] }) :
      exec (.reset number role completes) s = .next (started r) := by
    show execReset number role completes s = _
    unfold execReset
    dsimp only
    rw [h, tableAfterReset_straps, stationAfterReset_straps]
    rfl
  refine ⟨fun h => leaves _ (s.retained.afterReset_kept completes h), ?_⟩
  rintro c rest rfl h
  exact leaves _ (s.retained.afterReset_completes c rest h)

/-- Settles O4. -/
theorem resetStateIsAsTheBlocksGiveIt : Obligations.ResetStateIsAsTheBlocksGiveIt := by
  unfold Obligations.ResetStateIsAsTheBlocksGiveIt
  intro s
  refine ⟨by decide, by decide, ?_, by decide, by decide, ⟨rfl, by decide⟩, by decide, by decide, ⟨rfl, rfl, by decide⟩,
    by decide⟩
  rintro (_ | _) <;> decide

/-! ### The first events (R1, R2, R138, R140, R174) -/

theorem State.beginScan_first {s : State} {c : Channel} (h : (scanList s.cfg.channelMap).head? = some c) :
    s.beginScan = { s with weigh := { s.weigh with counts := [], select := some c, answerLimit := some 50 } } := by
  simp only [State.beginScan, h]
  rfl

theorem exec_firstScan {s : State} {c : Channel} (live : s.live = true) (idle : s.weigh.select = none)
    (h : (scanList s.cfg.channelMap).head? = some c) :
    exec .firstScan s = .next { s.took .firstScan with
      weigh := { s.weigh with counts := [], select := some c, answerLimit := some 50 } } := by
  show execFirstScan s = _
  rw [execFirstScan, State.whenLive_live _ (by simpa using live), if_pos (by simpa using idle),
    State.beginScan_first (by simpa using h)]
  rfl

theorem exec_printerLimitStart {s : State} (live : s.live = true) :
    exec .printerLimitStart s = .next (if s.tickets.printer = .ready then s.took .printerLimitStart
      else { s.took .printerLimitStart with tickets := { s.tickets with answerLimit := some s.cfg.printerLimit } }) := by
  show execPrinterLimitStart s = _
  rw [execPrinterLimitStart, State.whenLive_live _ (by simpa using live)]
  rfl

/-- The start check compares the map in force with the calibrated cell count (R174). -/
theorem exec_calStartCheck {s : State} (live : s.live = true) :
    exec .calStartCheck s = .next (
      if cellCountOf s.cfg.channelMap = s.retained.cal.cellCount then s.took .calStartCheck
      else if s.retained.lockEngaged then (s.took .calStartCheck).askCommit (.cal .startErase)
      else if s.retained.unverified then s.took .calStartCheck
      else (s.took .calStartCheck).askCommit (.cal .flagUnverified)) := by
  show execCalStartCheck s = _
  rw [execCalStartCheck, State.whenLive_live _ (by simpa using live)]
  rfl

/-! ### JOINING (R158 to R160, R183) -/

@[simp] theorem State.place_cal (s : State) (f : Frame) : (s.place f).1.cal = s.cal := by
  obtain ⟨l, h, -⟩ := s.place_shape f
  rw [h]

theorem State.handWaitingNotice_none {s : State} (h : s.cal.notice = none) : s.handWaitingNotice = s := by
  simp only [State.handWaitingNotice, h]

theorem State.handWaitingNotice_placed {s : State} {n : CalNotice} (h : s.cal.notice = some n)
    (placed : (s.place (noticeFrame n)).2 = true) :
    s.handWaitingNotice = { (s.place (noticeFrame n)).1 with cal := { s.cal with notice := none } } := by
  simp only [State.handWaitingNotice, h, State.handNotice, placed, if_true, State.place_cal]

theorem exec_enterJoining_done {s : State} (live : s.live = true) (h : s.offline = true ∨ s.link.begun = true) :
    exec .enterJoining s = .next (s.took .enterJoining) := by
  show execEnterJoining s = _
  rw [execEnterJoining, State.whenLive_live _ (by simpa using live), if_pos (by simpa using h)]

theorem exec_enterJoining {s : State} (live : s.live = true) (on : s.offline = false) (idle : s.link.begun = false) :
    exec .enterJoining s =
      .next ((s.took .enterJoining).beginJoining.place (helloFrame s)).1.handWaitingNotice := by
  show execEnterJoining s = _
  rw [execEnterJoining, State.whenLive_live _ (by simpa using live), if_neg (by simp [on, idle])]
  rfl

/-- Settles O8. -/
theorem firstEventsOfTheBlocks : Obligations.FirstEventsOfTheBlocks := by
  refine ⟨fun s live => ⟨fun c idle h => exec_firstScan live idle h, fun h => ?_, fun h => ?_, fun h => ?_,
    fun h locked => ?_, fun h unlocked => ?_⟩, fun s => exec_enterJoining_done, fun s live on idle => ?_⟩
  · rw [exec_printerLimitStart live, if_neg h]
  · rw [exec_printerLimitStart live, if_pos h]
  · rw [exec_calStartCheck live, if_pos h]
  · rw [exec_calStartCheck live, if_neg h, if_pos locked]
    rfl
  · rw [exec_calStartCheck live, if_neg h, if_neg (by simp [unlocked])]
    cases hu : s.retained.unverified <;> rfl
  · intro joined hello
    have enters : exec .enterJoining s = .next (joined.place hello).1.handWaitingNotice := exec_enterJoining live on idle
    have kept : (joined.place hello).1.cal = s.cal := State.place_cal _ _
    refine ⟨fun h => ?_, fun n h placed => ?_⟩
    · rw [enters, State.handWaitingNotice_none (by rw [kept, h])]
    · rw [enters, State.handWaitingNotice_placed (n := n) (by rw [kept, h]) placed, kept]

end Sys2Proof.Machine
end

section
/-! PROOFS. The weight arithmetic (1.4): rounding, the displayed weight and its status, the window and STABLE. -/

namespace Sys2Proof.Machine

/-! ### Rounding -/

/-- The quotient rounded half up is the one whose interval of width `q` around it holds `n`. -/
theorem roundHalfUp_bounds (n : Nat) {q : Nat} (h : 0 < q) :
    2 * (q * roundHalfUp n q) ≤ 2 * n + q ∧ 2 * n + q < 2 * (q * roundHalfUp n q) + 2 * q := by
  have split := Nat.div_add_mod (2 * n + q) (2 * q)
  have rest := Nat.mod_lt (2 * n + q) (Nat.mul_pos (by decide : 0 < 2) h)
  rw [Nat.mul_assoc] at split
  unfold roundHalfUp
  omega

theorem roundHalfAway_eq (n : Int) (q : Nat) : roundHalfAway n q = n.sign * (roundHalfUp n.natAbs q : Int) := rfl

/-- `a` is `n / q` rounded to the nearest, halves away from zero (00_scope.md, Rounding). -/
structure RoundsHalfAway (n : Int) (q : Nat) (a : Int) : Prop where
  near   : 2 * (q * a - n).natAbs ≤ q
  half   : 2 * (q * a - n).natAbs = q → n.natAbs < (q * a).natAbs
  nonneg : 0 ≤ n → 0 ≤ a
  nonpos : n ≤ 0 → a ≤ 0

theorem roundHalfAway_rounds (n : Int) {q : Nat} (h : 0 < q) : RoundsHalfAway n q (roundHalfAway n q) := by
  obtain ⟨low, high⟩ := roundHalfUp_bounds n.natAbs h
  rw [roundHalfAway_eq]
  generalize roundHalfUp n.natAbs q = k at low high
  have cast : ((q * k : Nat) : Int) = q * k := Nat.cast_mul q k
  generalize q * k = p at low high cast
  rcases Int.lt_trichotomy n 0 with neg | rfl | pos
  · rw [Int.sign_eq_neg_one_of_neg neg]
    constructor <;> simp only [Int.neg_mul, Int.one_mul, Int.mul_neg, ← cast] <;> omega
  · exact ⟨by simp, by simp; omega, by simp, by simp⟩
  · rw [Int.sign_eq_one_of_pos pos]
    constructor <;> simp only [Int.one_mul, ← cast] <;> omega

/-- A multiple of the divisor is divided without rounding. -/
theorem roundHalfAway_mul (x : Int) {q : Nat} (h : 0 < q) : roundHalfAway (x * q) q = x := by
  have near := (roundHalfAway_rounds (x * q) h).near
  generalize roundHalfAway (x * q) q = a at near
  have off : (q : Int) * a - x * q = q * (a - x) := by ring
  rw [off, Int.natAbs_mul, Int.natAbs_natCast] at near
  have zero : (a - x).natAbs = 0 := by
    by_contra hx
    have : q * 1 ≤ q * (a - x).natAbs := Nat.mul_le_mul_left q (Nat.one_le_iff_ne_zero.2 hx)
    omega
  omega

/-- Settles O10. -/
theorem correctedCountRoundsHalfAwayFromZero : Obligations.CorrectedCountRoundsHalfAwayFromZero := by
  refine ⟨fun c z k => ?_, fun c z => roundHalfAway_mul (c - z) (q := 65536) (by decide), by decide⟩
  have rounds := roundHalfAway_rounds ((c - z) * k) (q := 65536) (by decide)
  exact ⟨rounds.near, rounds.half, rounds.nonneg, rounds.nonpos⟩

/-! ### The displayed weight and its status (R8, R9) -/

theorem displayedWeight_dvd (d : Nat) (net : Int) : (d : Int) ∣ displayedWeight d net := Int.dvd_mul_left _ _

/-- In grams, the displayed weight is the divisor of its rounding times the quotient. -/
theorem displayedWeight_grams (d : Nat) (net : Int) :
    1000 * displayedWeight d net = ((1000 * d : Nat) : Int) * roundHalfAway net (1000 * d) := by
  unfold displayedWeight
  push_cast
  ring

theorem statusOf_valid (d capacity : Nat) (w : Int) :
    statusOf d capacity w = .valid w ↔ -20 * (d : Int) ≤ w ∧ w ≤ capacity + 9 * d := by
  unfold statusOf
  split_ifs <;> simp <;> omega

theorem statusOf_overload (d capacity : Nat) (w : Int) :
    statusOf d capacity w = .overload ↔ capacity + 9 * (d : Int) < w := by
  unfold statusOf
  split_ifs <;> simp <;> omega

theorem statusOf_underzero (d capacity : Nat) (w : Int) :
    statusOf d capacity w = .underzero ↔ w < -20 * (d : Int) := by
  unfold statusOf
  split_ifs <;> simp <;> omega

theorem statusOf_hasWeight (d capacity : Nat) (w : Int) : statusOf d capacity w ≠ .noWeight := by
  unfold statusOf
  split_ifs <;> simp

/-! ### The window and STABLE (R11, R13) -/

/-- The largest and the smallest of a list that is not empty, as folds. -/
theorem foldl_max_spec (w : Int) (ws : List Int) : ws.foldl max w ∈ w :: ws ∧ ∀ a ∈ w :: ws, a ≤ ws.foldl max w :=
  List.max?_eq_some_iff.1 List.max?_cons'

theorem foldl_min_spec (w : Int) (ws : List Int) : ws.foldl min w ∈ w :: ws ∧ ∀ a ∈ w :: ws, ws.foldl min w ≤ a :=
  List.min?_eq_some_iff.1 List.min?_cons'

/-- The spread of a list is at most `m` exactly where every difference of two of its members is. -/
theorem spread_le_iff (w : Int) (ws : List Int) (m : Int) :
    ws.foldl max w - ws.foldl min w ≤ m ↔ ∀ a ∈ w :: ws, ∀ b ∈ w :: ws, a - b ≤ m := by
  obtain ⟨maxIn, maxLe⟩ := foldl_max_spec w ws
  obtain ⟨minIn, minLe⟩ := foldl_min_spec w ws
  refine ⟨fun h a ha b hb => ?_, fun h => h _ maxIn _ minIn⟩
  have := maxLe a ha
  have := minLe b hb
  omega

theorem windowStable_iff {length : Nat} (band d : Nat) (window : List Int) (h : 0 < length) :
    windowStable length band d window = true ↔
      window.length = length ∧ ∀ a ∈ window, ∀ b ∈ window, a - b ≤ ((band * d : Nat) : Int) := by
  cases window with
  | nil => simp [windowStable]; omega
  | cons w ws =>
    simp only [windowStable, Bool.and_eq_true, beq_iff_eq, decide_eq_true_eq]
    exact and_congr_right fun _ => spread_le_iff w ws _

theorem windowAfter_length (length : Nat) (window : List Int) (w : Int) (h : window.length ≤ length) :
    (windowAfter length window w).length = min length (window.length + 1) := by
  simp only [windowAfter, List.length_drop, List.length_append, List.length_singleton]
  omega

theorem windowAfter_getLast (length : Nat) (window : List Int) (w : Int) (h : 0 < length) :
    (windowAfter length window w).getLast? = some w := by
  rw [windowAfter, List.getLast?_drop, if_neg (by simp; omega), List.getLast?_concat]

/-- Settles O11. -/
theorem displayedWeightStatusAndStability : Obligations.DisplayedWeightStatusAndStability := by
  refine ⟨fun d capacity net hd => ?_, fun length band d window => windowStable_iff band d window,
    fun length window w h room => ⟨windowAfter_length length window w room, windowAfter_getLast length window w h,
      List.drop_suffix _ _⟩⟩
  intro w
  have rounds := roundHalfAway_rounds net (q := 1000 * d) (by omega)
  have grams : 1000 * w = ((1000 * d : Nat) : Int) * roundHalfAway net (1000 * d) := displayedWeight_grams d net
  refine ⟨displayedWeight_dvd d net, ?_, ?_, statusOf_valid d capacity w, statusOf_overload d capacity w,
    statusOf_underzero d capacity w, statusOf_hasWeight d capacity w⟩
  · rw [grams]; exact rounds.near
  · rw [grams]; exact rounds.half

end Sys2Proof.Machine
end

section
/-! PROOFS. The weighing channel's commands (1.3 to 1.7): what SAMPLE and the answer limit lead to, the capture, the zero
test, and the stages of a scan's end one by one. -/

namespace Sys2Proof.Machine

/-! ### SAMPLE and CHANNEL_ANSWER_LIMIT_EXPIRY (R2, R3) -/

theorem decodeSample_none {message : List Byte} (h : message.length ≠ 4) : decodeSample message = none := by
  unfold decodeSample
  split
  · simp at h
  · rfl

theorem isExtreme_iff (count : Int) : isExtreme count = true ↔ count = -8388608 ∨ count = 8388607 := by
  simp [isExtreme]

theorem exec_sample_discarded {s : State} {message : List Byte} (live : s.live = true)
    (h : s.weigh.select = none ∨ message.length ≠ 4) : exec (.sample message) s = .next s := by
  show execSample message s = _
  rw [execSample, State.whenLive_live _ live]
  rcases h with h | h
  · simp only [h]
  · simp only [decodeSample_none h]
    cases s.weigh.select <;> rfl

section
variable {s : State} {c : Channel} (live : s.live = true) (selected : s.weigh.select = some c)
include live selected

theorem exec_sample_count (x y z : Byte) :
    exec (.sample [byteOf (c.val + 1), x, y, z]) s = .next (s.takeCount c (fromBeSigned [x, y, z])) := by
  show execSample _ s = _
  rw [execSample, State.whenLive_live _ live]
  simp only [selected, decodeSample, channelByte, if_true]

theorem exec_sample_wrongChannel {b : Byte} (x y z : Byte) (h : b ≠ byteOf (c.val + 1)) :
    exec (.sample [b, x, y, z]) s = .next (s.endScan (some (c, .wrongChannel))) := by
  show execSample _ s = _
  rw [execSample, State.whenLive_live _ live]
  simp only [selected, decodeSample, channelByte, h, if_false]

theorem exec_channelAnswerLimitExpiry (running : s.weigh.answerLimit.isSome = true) :
    exec .channelAnswerLimitExpiry s = .next (s.endScan (some (c, .noAnswer))) := by
  show execChannelAnswerLimitExpiry s = _
  obtain ⟨limit, h⟩ := Option.isSome_iff_exists.1 running
  rw [execChannelAnswerLimitExpiry, State.whenLive_live _ live]
  simp only [selected, h]

end

/-- The count of a channel kept (R3). -/
def State.keepCount (s : State) (c : Channel) (count : Int) : State :=
  { s with weigh := { s.weigh with counts := s.weigh.counts ++ [(c, count)] } }

theorem State.takeCount_extreme (s : State) (c : Channel) {count : Int} (h : isExtreme count = true) :
    s.takeCount c count = s.endScan (some (c, .overrange)) := by
  rw [State.takeCount, if_pos h]

theorem State.takeCount_next {s : State} {c n : Channel} {count : Int} (h : isExtreme count = false)
    (next : nextChannel s.cfg.channelMap c = some n) :
    s.takeCount c count = { s with weigh := { s.weigh with
      counts := s.weigh.counts ++ [(c, count)], select := some n, answerLimit := some 50 } } := by
  rw [State.takeCount, if_neg (by simp [h])]
  simp only [next]
  rfl

theorem State.takeCount_last {s : State} {c : Channel} {count : Int} (h : isExtreme count = false)
    (last : nextChannel s.cfg.channelMap c = none) : s.takeCount c count = (s.keepCount c count).endScan none := by
  rw [State.takeCount, if_neg (by simp [h])]
  simp only [last]
  rfl

theorem isExtreme_false {count : Int} (low : count ≠ -8388608) (high : count ≠ 8388607) : isExtreme count = false := by
  simp [isExtreme, low, high]

/-! ### The capture (R19) -/

theorem weightIsPresent_iff (d : Nat) (w : Weight) :
    weightIsPresent d w = true ↔ ∃ kg, w = .valid kg ∧ 20 * (d : Int) ≤ kg := by
  cases w <;> simp [weightIsPresent]

theorem State.captureHolds_iff (s : State) : s.captureHolds = true ↔
    ∃ w : Int, s.weigh.captureRequest = true ∧ s.weigh.current = .valid w ∧ s.weigh.stable = true ∧
      s.weigh.monitor = .running ∧ s.weigh.zeroSet = true ∧ s.deck.presence = true ∧
      s.active? (.beam .a) = false ∧ s.active? (.beam .b) = false ∧ s.deck.armed = true ∧
      20 * (s.retained.cal.interval : Int) ≤ w := by
  simp only [State.captureHolds, State.whollyOccupied, State.beamsClear, Bool.and_eq_true, beq_iff_eq,
    Bool.not_eq_true', weightIsPresent_iff]
  constructor
  · rintro ⟨⟨⟨⟨⟨⟨request, stable⟩, running⟩, set⟩, occupied, clearA, clearB⟩, armed⟩, w, valid, heavy⟩
    exact ⟨w, request, valid, stable, running, set, occupied, clearA, clearB, armed, heavy⟩
  · rintro ⟨w, request, valid, stable, running, set, occupied, clearA, clearB, armed, heavy⟩
    exact ⟨⟨⟨⟨⟨⟨request, stable⟩, running⟩, set⟩, occupied, clearA, clearB⟩, armed⟩, w, valid, heavy⟩

theorem State.giveCapture_holds {s : State} {w : Int} (h : s.captureHolds = true) (valid : s.weigh.current = .valid w) :
    s.giveCapture = { s with
      weigh := { s.weigh with captureRequest := false }, posted := s.posted ++ [.event (.capture w.toNat)] } := by
  rw [State.giveCapture, if_pos h, valid]
  rfl

theorem State.giveCapture_not {s : State} (h : s.captureHolds ≠ true) : s.giveCapture = s := by
  rw [State.giveCapture, if_neg h]

/-- Settles O14. -/
theorem captureNeedsEveryCondition : Obligations.CaptureNeedsEveryCondition := by
  refine ⟨fun s => ⟨fun w request valid stable running set occupied clearA clearB armed heavy => ?_, ?_⟩,
    fun s c x y z live selected last low high => ?_⟩
  · exact State.giveCapture_holds (s.captureHolds_iff.2
      ⟨w, request, valid, stable, running, set, occupied, clearA, clearB, armed, heavy⟩) valid
  · by_cases h : s.captureHolds = true
    · exact .inl (s.captureHolds_iff.1 h)
    · exact .inr (State.giveCapture_not h)
  · exact (exec_sample_count live selected x y z).trans
      (congrArg _ (State.takeCount_last (isExtreme_false low high) last))

/-! ### The zero test (R18) -/

theorem State.quiet_iff (s : State) : s.quiet = true ↔
    (∃ w, s.weigh.current = .valid w) ∧ s.weigh.stable = true ∧ s.weigh.monitor = .running ∧ s.deckLoopClear = true ∧
      s.measuring = false := by
  unfold State.quiet
  cases s.weigh.current <;> simp [and_assoc]

theorem State.massInRange_iff (s : State) (m : Int) :
    s.massInRange m = true ↔ m.natAbs ≤ 20 * s.retained.cal.capacity := by
  unfold State.massInRange zeroRangeOf
  rw [decide_eq_true_iff]
  omega

theorem exec_zeroTest {s : State} (live : s.live = true) :
    exec .zeroTest s = .next ((s.took .zeroTest).testZero.1.reportCommand .zero (s.took .zeroTest).testZero.2) := by
  show execZeroTest s = _
  rw [execZeroTest, State.whenLive_live _ (by simpa using live)]
  rfl

theorem State.testZero_done {s : State} {m : Int} (mass : s.weigh.lastMass = some m) (h : s.zeroTestHolds = true)
    (range : s.massInRange m = true) :
    s.testZero = ({ s with weigh := { s.weigh.setZero m true with zeroRange := false } }, .done) := by
  simp only [State.testZero, mass, h, range, if_true]

theorem State.testZero_outOfRange {s : State} {m : Int} (mass : s.weigh.lastMass = some m) (h : s.zeroTestHolds = true)
    (range : s.massInRange m = false) : s.testZero = ({ s with weigh := { s.weigh with zeroRange := true } }, .refused) := by
  simp only [State.testZero, mass, h, range, if_true, Bool.false_eq_true, if_false]

theorem State.testZero_refused {s : State} (h : s.weigh.lastMass = none ∨ s.zeroTestHolds = false) :
    s.testZero = (s, .refused) := by
  rcases h with h | h
  · simp only [State.testZero, h]
  · unfold State.testZero
    split
    · rfl
    · rw [if_neg (by simp [h])]

/-- Settles O15. -/
theorem zeroCommandAndBeamAtTheScale : Obligations.ZeroCommandAndBeamAtTheScale := by
  intro s live
  refine ⟨?_, fun m w mass valid stable running loop beams idle => ?_, fun h => ?_⟩
  · show execWindowEmptyBeam s = _
    rw [execWindowEmptyBeam, State.whenLive_live _ (by simpa using live)]
    rfl
  · have holds : (s.took .zeroTest).zeroTestHolds = true :=
      Bool.and_eq_true_iff.2 ⟨s.quiet_iff.2 ⟨⟨w, valid⟩, stable, running, loop, idle⟩, beams⟩
    refine ⟨fun range => ?_, fun range => ?_⟩
    · rw [exec_zeroTest live, State.testZero_done (s := s.took .zeroTest) mass holds ((s.massInRange_iff m).2 range)]
      rfl
    · have outside : s.massInRange m = false := by
        rw [← Bool.not_eq_true, s.massInRange_iff]
        omega
      rw [exec_zeroTest live, State.testZero_outOfRange (s := s.took .zeroTest) mass holds outside]
      rfl
  · have refused : (s.took .zeroTest).testZero = (s.took .zeroTest, .refused) := by
      refine State.testZero_refused (or_iff_not_imp_left.2 fun mass => ?_)
      rw [← Bool.not_eq_true]
      intro holds
      obtain ⟨quiet, beams⟩ := Bool.and_eq_true_iff.1 holds
      obtain ⟨⟨w, valid⟩, stable, running, loop, idle⟩ := s.quiet_iff.1 quiet
      have beams : s.beamsClear = true := beams
      have mass : s.weigh.lastMass ≠ none := mass
      simp_all
    rw [exec_zeroTest live, refused]
    rfl

end Sys2Proof.Machine
end

section
/-! PROOFS. A scan that ends as CELL-FAULT (R2 to R5, R9 to R13, R20, R28, R31, R177). -/

namespace Sys2Proof.Machine

/-! ### Events given -/

/-- Some events given, in their order (log 2). -/
def State.gives (s : State) (events : List Posted) : State := { s with posted := s.posted ++ events }

theorem State.post_gives (s : State) (i : Instr) : s.post i = s.gives [.event i] := rfl

theorem State.gives_nil (s : State) : s.gives [] = s := by rw [State.gives, List.append_nil]

theorem State.gives_gives (s : State) (a b : List Posted) : (s.gives a).gives b = s.gives (a ++ b) := by
  unfold State.gives
  rw [← List.append_assoc]

theorem State.postIf_gives (s : State) (c : Bool) (i : Instr) :
    s.postIf c i = s.gives (if c then [.event i] else []) := by
  cases c
  · exact s.gives_nil.symm
  · rfl

/-! ### What every scan's end does with its weight answer (R20, R28, R31, R50) -/

/-- The event that tells the lane of a barrier in FAULT at the start report (R50). -/
def State.standingFault (s : State) (e : End) : List Posted :=
  match s.offline, (s.barrier e).state, (s.barrier e).reason with
  | false, .fault, some reason => [.event (.laneBarrierFault e reason)]
  | _, _, _ => []

theorem State.postStartFault_gives (s : State) (e : End) : s.postStartFault e = s.gives (s.standingFault e) := by
  unfold State.postStartFault State.standingFault
  split
  · rename_i state reason
    rw [state, reason, State.postIf_gives]
    cases s.offline <;> rfl
  · rename_i noFault
    split
    · rename_i state reason
      exact absurd reason (noFault _ state)
    · exact s.gives_nil.symm

/-- The events that tell the lane of the presence a scan leaves: a change of it, or the start report with the barrier
faults that stand. -/
def State.presenceTold (s : State) (presence : Bool) : List Posted :=
  if s.deck.reportSent then (if presence = s.deck.presence then [] else [.event (.lanePresenceChanged presence)])
  else [.event (.laneStartReport presence s.deck.debounced s.deck.armed)] ++ s.standingFault .a ++ s.standingFault .b

/-- The deck sensor unit after a scan's weight answer. -/
def DeckState.weighed (d : DeckState) (weighs presence : Bool) : DeckState :=
  { d with weightPresent := weighs, presence := presence, reportSent := true }

theorem State.sendStartReport_gives (s : State) : s.sendStartReport =
    ({ s with deck := { s.deck with presence := s.formedPresence, reportSent := true } }).gives
      ([Posted.event (.laneStartReport s.formedPresence s.deck.debounced s.deck.armed)] ++ s.standingFault .a ++
        s.standingFault .b) := by
  unfold State.sendStartReport
  extract_lets d t
  rw [State.post_gives, State.postStartFault_gives, State.postStartFault_gives, State.gives_gives, State.gives_gives]
  rfl

theorem State.updatePresence_gives (s : State) (sent : s.deck.reportSent = true) : s.updatePresence =
    ({ s with deck := { s.deck with presence := s.formedPresence, reportSent := true } }).gives
      (if s.formedPresence = s.deck.presence then [] else [.event (.lanePresenceChanged s.formedPresence)]) := by
  have same : ({ s.deck with reportSent := true } : DeckState) = s.deck := by rw [← sent]
  unfold State.updatePresence
  split
  · rename_i h
    rw [State.gives_nil, h]
    exact (congrArg (fun d => ({ s with deck := d } : State)) same).symm
  · rw [State.postLane, State.postIf_gives]
    dsimp only
    rw [sent]
    rfl

/-- Weight present and presence as a scan's status gives them, and what the lane is told. -/
theorem State.takeWeightAnswer_gives (s : State) {weighs presence : Bool}
    (hw : weightIsPresent s.retained.cal.interval s.weigh.current = weighs)
    (hp : (s.cfg.deckLoopFitted && s.active? .deckLoop || weighs) = presence) :
    s.takeWeightAnswer = ({ s with deck := s.deck.weighed weighs presence }).gives (s.presenceTold presence) := by
  subst hw hp
  unfold State.takeWeightAnswer State.presenceTold
  extract_lets d t
  cases sent : s.deck.reportSent
  · exact t.sendStartReport_gives
  · exact t.updatePresence_gives sent

/-! ### The stages of a CELL-FAULT scan (R4, R9, R12) -/

theorem Monitor.afterFault_eq (m : Monitor) (n : Nat) :
    m.afterFault (min n 3) = if m ≠ .failed ∧ 3 ≤ n then .failed else m := by
  have three : min n 3 = 3 ↔ 3 ≤ n := by omega
  cases m <;> simp [Monitor.afterFault, three]

/-- The weighing channel after stages 1 to 3 of a CELL-FAULT scan (R4, R9, R12, R13). -/
def WeighState.faulted (w : WeighState) (f : Channel × CellCause) : WeighState :=
  { w with
    lastScan := some ⟨some f, w.counts⟩
    monitor := if w.monitor ≠ .failed ∧ 3 ≤ w.faultCount + 1 then .failed else w.monitor
    goodCount := 0, faultCount := min (w.faultCount + 1) 3, window := [], current := .noWeight, stable := false }

theorem WeighState.stages_faulted (w : WeighState) (cal : CalRecord) (cfg : Settings) (d : Nat) (f : Channel × CellCause) :
    { (((w.monitorScan false).formWeight cal false).judge cfg d) with lastScan := some ⟨some f, w.counts⟩ } =
      w.faulted f := by
  unfold WeighState.faulted
  rw [← Monitor.afterFault_eq]
  rfl

/-- The event that tells the lane of a converter that a CELL-FAULT scan makes FAILED, after the start report (R5). -/
def State.failureTold (s : State) : List Posted :=
  if (s.weigh.monitor ≠ .failed ∧ 3 ≤ s.weigh.faultCount + 1) ∧ s.deck.reportSent = true then
    [.event .laneConverterFailed]
  else []

theorem State.measureScan_fault (s : State) (f : Channel × CellCause) :
    s.measureScan (some f) = ({ s with weigh := s.weigh.faulted f } : State).gives s.failureTold := by
  have monitor : (s.weigh.monitorScan false).monitor =
      if s.weigh.monitor ≠ .failed ∧ 3 ≤ s.weigh.faultCount + 1 then Monitor.failed else s.weigh.monitor :=
    Monitor.afterFault_eq _ _
  unfold State.measureScan
  extract_lets failed w
  have tells : (failed && s.deck.reportSent) = true ↔
      (s.weigh.monitor ≠ Monitor.failed ∧ 3 ≤ s.weigh.faultCount + 1) ∧ s.deck.reportSent = true := by
    simp only [failed, Option.isNone_some, monitor, Bool.and_eq_true, beq_iff_eq, bne_iff_ne, ne_eq]
    split <;> simp_all
  rw [State.postIf_gives, if_congr tells rfl rfl]
  exact congrArg (fun v => ({ s with weigh := v } : State).gives _)
    (s.weigh.stages_faulted s.retained.cal s.cfg s.retained.cal.interval f)

/-- A scan with no weight gives no capture (R19). -/
theorem State.captureHolds_noWeight {s : State} (h : s.weigh.current = .noWeight) : s.captureHolds ≠ true := by
  intro holds
  obtain ⟨w, -, valid, -⟩ := s.captureHolds_iff.1 holds
  cases h.symm.trans valid

/-- The stages of a scan's end, one after the other (R10). -/
theorem State.endScan_stages {s a b c d e : State} {f : Option (Channel × CellCause)} (measured : s.measureScan f = a)
    (answered : a.takeWeightAnswer = b) (captured : b.giveCapture = c) (given : c.giveCalScan f = d)
    (zeroed : d.zeroStep f.isNone = e) : s.endScan f = e.beginScan := by
  subst measured answered captured given zeroed
  rfl

/-- The whole of a CELL-FAULT scan's end (R10). -/
theorem State.endScan_fault (s : State) {first : Channel} (f : Channel × CellCause)
    (h : (scanList s.cfg.channelMap).head? = some first) {presence : Bool}
    (hp : (s.cfg.deckLoopFitted && s.active? .deckLoop) = presence) :
    s.endScan (some f) = ((({ s with
      weigh := { s.weigh.faulted f with select := some first, answerLimit := some 50, counts := [] }
      deck := s.deck.weighed false presence } : State).gives
        s.failureTold).gives (s.presenceTold presence)).gives
        (if s.takingScans then [.event (.calScan .cellFault)] else []) := by
  let a : State := ({ s with weigh := s.weigh.faulted f } : State).gives s.failureTold
  let b : State := ({ a with deck := s.deck.weighed false presence } : State).gives (s.presenceTold presence)
  have answered : a.takeWeightAnswer = b := State.takeWeightAnswer_gives a rfl ((Bool.or_false _).trans hp)
  have noCapture : b.giveCapture = b := State.giveCapture_not (State.captureHolds_noWeight rfl)
  exact (State.endScan_stages (s.measureScan_fault f) answered noCapture (State.postIf_gives _ _ _) rfl).trans
    (State.beginScan_first h)

/-- Settles O12. -/
theorem sampleTakesTheNextChannelOrEndsTheScan : Obligations.SampleTakesTheNextChannelOrEndsTheScan := by
  refine ⟨fun s x y z live => ⟨fun message h => exec_sample_discarded live h, fun c n selected low high next => ?_⟩,
    fun s c first live selected head i cause ends => ?_⟩
  · exact (exec_sample_count live selected x y z).trans
      (congrArg _ (State.takeCount_next (isExtreme_false low high) next))
  · have scanEnds : exec i s = .next (s.endScan (some (c, cause))) := by
      rcases ends with ⟨rfl, running, rfl⟩ | ⟨b, x, y, z, rfl, other, rfl⟩ | ⟨x, y, z, rfl, extreme, rfl⟩
      · exact exec_channelAnswerLimitExpiry live selected running
      · exact exec_sample_wrongChannel live selected x y z other
      · exact (exec_sample_count live selected x y z).trans
          (congrArg _ (s.takeCount_extreme c ((isExtreme_iff _).2 extreme)))
    intro fails presence fault told
    rw [scanEnds, s.endScan_fault (c, cause) head (presence := presence) rfl]
    rfl

end Sys2Proof.Machine
end

section
/-! PROOFS. A scan that ends as GOOD (R7 to R20, R28, R31). -/

namespace Sys2Proof.Machine

/-! ### Stages 1 to 3: monitor, weight, window, STABLE (R4, R7 to R9, R11 to R13) -/

/-- The window after a scan of a given status (R11, R12). -/
def Weight.window (status : Weight) (cfg : Settings) (window : List Int) : List Int :=
  match status with
  | .valid w => windowAfter cfg.windowLen window w
  | _ => []

/-- STABLE after a scan of a given status, with the window it leaves (R13). -/
def Weight.stable (status : Weight) (cfg : Settings) (d : Nat) (window : List Int) : Bool :=
  match status with
  | .valid _ => windowStable cfg.windowLen cfg.band d window
  | _ => false

theorem Weight.stable_valid {status : Weight} {cfg : Settings} {d : Nat} {window : List Int}
    (h : status.stable cfg d window = true) : ∃ w, status = .valid w := by
  cases status
  case valid w => exact ⟨w, rfl⟩
  all_goals cases h

theorem WeighState.judge_eq (w : WeighState) (cfg : Settings) (d : Nat) : w.judge cfg d =
    { w with
      window := w.current.window cfg w.window
      stable := w.current.stable cfg d (w.current.window cfg w.window) } := by
  unfold WeighState.judge
  cases w.current <;> rfl

/-- The mass of the counts kept (R7). -/
def WeighState.mass (w : WeighState) (cal : CalRecord) : Int := massOf cal (sumOfCounts cal w.counts)

/-- The status of the counts kept, by the zero in force (R8, R9). -/
def WeighState.status (w : WeighState) (cal : CalRecord) : Weight :=
  statusOf cal.interval cal.capacity (displayedWeight cal.interval (w.mass cal - w.zero))

/-- The weighing channel after stages 1 to 3 of a GOOD scan. -/
def WeighState.weighed (w : WeighState) (cal : CalRecord) (cfg : Settings) : WeighState :=
  { w with
    lastScan := some ⟨none, w.counts⟩
    monitor := match w.monitor with
      | .running => .running
      | .failed => .warming
      | .warming => if w.goodCount + 1 < 16 then .warming else .running
    goodCount := min (w.goodCount + 1) 16, faultCount := 0
    lastMass := some (w.mass cal), current := w.status cal
    window := (w.status cal).window cfg w.window
    stable := (w.status cal).stable cfg cal.interval ((w.status cal).window cfg w.window) }

/-- A GOOD scan never makes the converter FAILED (R4). -/
theorem Monitor.afterGood_ne_failed (m : Monitor) (good : Nat) : m.afterGood good ≠ .failed := by
  cases m <;> simp [Monitor.afterGood]
  split <;> simp

theorem Monitor.afterGood_eq (m : Monitor) (good : Nat) : m.afterGood (min (good + 1) 16) = match m with
    | .running => .running
    | .failed => .warming
    | .warming => if good + 1 < 16 then .warming else .running := by
  cases m
  case warming =>
    unfold Monitor.afterGood
    by_cases h : good + 1 < 16
    · simp only [h, if_true]
      rw [if_neg (by omega)]
    · simp only [h, if_false]
      rw [if_pos (by omega)]
  all_goals rfl

theorem State.measureScan_good (s : State) :
    s.measureScan none = { s with weigh := s.weigh.weighed s.retained.cal s.cfg } := by
  have running : ((s.weigh.monitorScan true).monitor == .failed) = false :=
    beq_eq_false_iff_ne.2 (Monitor.afterGood_ne_failed _ _)
  unfold State.measureScan
  simp only [Option.isNone_none, running, Bool.false_and, State.postIf_gives, Bool.false_eq_true, if_false,
    State.gives_nil, WeighState.judge_eq, WeighState.weighed, ← Monitor.afterGood_eq]
  rfl

/-! ### Stage 4: the capture (R19) -/

theorem State.captureHolds_eq (s : State) : s.captureHolds =
    (s.weigh.captureRequest && s.weigh.stable && s.weigh.monitor == .running && s.weigh.zeroSet && s.deck.presence &&
      s.beamsClear && s.deck.armed && weightIsPresent s.retained.cal.interval s.weigh.current) := by
  simp only [State.captureHolds, State.whollyOccupied, Bool.and_assoc]

/-- The capture event of a scan, where every condition holds or not. -/
def captureGiven (captured : Bool) (status : Weight) : List Posted :=
  match captured, status with
  | true, .valid w => [.event (.capture w.toNat)]
  | _, _ => []

theorem State.giveCapture_gives (s : State) {captured : Bool} (h : s.captureHolds = captured) : s.giveCapture =
    ({ s with weigh := { s.weigh with captureRequest := s.weigh.captureRequest && !captured } } : State).gives
      (captureGiven captured s.weigh.current) := by
  cases captured
  · rw [State.giveCapture_not (by simp [h])]
    simp [State.gives, captureGiven]
  · obtain ⟨w, -, valid, -⟩ := s.captureHolds_iff.1 h
    rw [State.giveCapture_holds h valid, valid]
    simp [State.gives, captureGiven]

/-! ### Stage 5: the zero step (R14, R15, R17) -/

theorem clampMagnitude_eq {m : Int} (v : Int) (h : 0 ≤ m) : clampMagnitude m v = max (-m) (min m v) := by
  unfold clampMagnitude
  split_ifs <;> omega

/-- A STABLE scan is VALID, so that what initial zero, tracking and ZERO share does not name the status again (R13). -/
theorem State.quiet_eq (s : State) (h : s.weigh.stable = true → ∃ w, s.weigh.current = .valid w) : s.quiet =
    (s.weigh.stable && s.weigh.monitor == .running && s.deckLoopClear && !s.measuring) := by
  unfold State.quiet
  cases stable : s.weigh.stable
  · cases s.weigh.current <;> rfl
  · obtain ⟨w, valid⟩ := h stable
    rw [valid]
    rfl

/-- The initial-zero test is made (R14). -/
def State.triesZero (s : State) : Bool := s.quiet && !s.weigh.zeroSet && s.beamsClear && s.lane.state == .idle

/-- Zero tracking takes a step (R17). -/
def State.tracksZero (s : State) (m : Int) : Bool :=
  s.quiet && s.weigh.zeroSet && !weightIsPresent s.retained.cal.interval s.weigh.current &&
    decide (((m - s.weigh.zero).natAbs : Int) ≤ 500 * s.retained.cal.interval)

/-- Z after a step of tracking (R17). -/
def State.trackedZero (s : State) (m : Int) : Int :=
  clampMagnitude (zeroRangeOf s.retained.cal.capacity)
    (s.weigh.zero + trackingStep s.retained.cal.interval (m - s.weigh.zero))

theorem State.trackedZero_eq (s : State) (m : Int) :
    let most := zeroRangeOf s.retained.cal.capacity
    let step : Int := 50 * s.retained.cal.interval
    s.trackedZero m = max (-most) (min most (s.weigh.zero + max (-step) (min step (m - s.weigh.zero)))) := by
  intro most step
  rw [State.trackedZero, trackingStep, clampMagnitude_eq _ (zeroRangeOf_nonneg _), clampMagnitude_eq _ (by omega)]

/-- The weighing channel after a zero step that leaves `zero`, where an initial zero was tried and taken or not. -/
def WeighState.zeroed (w : WeighState) (zero : Int) (tries takes : Bool) : WeighState :=
  { w with
    zero := zero, zeroSet := w.zeroSet || takes, zeroRange := if tries then !takes else w.zeroRange
    window := if zero = w.zero then w.window else [] }

theorem WeighState.zeroed_same (w : WeighState) : w.zeroed w.zero false false = w := by
  simp [WeighState.zeroed]

theorem State.initialZero_eq (s : State) (m : Int) (unset : s.weigh.zeroSet = false) : s.initialZero m =
    { s with
      weigh := s.weigh.zeroed (if s.triesZero && s.massInRange m then m else s.weigh.zero) s.triesZero
        (s.triesZero && s.massInRange m) } := by
  have same : (s.quiet && s.beamsClear && s.lane.state == .idle) = s.triesZero := by simp [State.triesZero, unset]
  rw [State.initialZero, same]
  cases s.triesZero
  · exact congrArg (fun w => { s with weigh := w }) s.weigh.zeroed_same.symm
  · cases s.massInRange m <;> simp [WeighState.zeroed, WeighState.setZero, unset]

theorem State.trackZero_eq (s : State) (m : Int) (set : s.weigh.zeroSet = true) : s.trackZero m =
    { s with weigh := s.weigh.zeroed (if s.tracksZero m then s.trackedZero m else s.weigh.zero) false false } := by
  have same : (s.quiet && !weightIsPresent s.retained.cal.interval s.weigh.current &&
      decide (((m - s.weigh.zero).natAbs : Int) ≤ 500 * s.retained.cal.interval)) = s.tracksZero m := by
    simp [State.tracksZero, set]
  unfold State.trackZero
  dsimp only
  rw [same]
  cases s.tracksZero m
  · exact congrArg (fun w => { s with weigh := w }) s.weigh.zeroed_same.symm
  · simp [WeighState.zeroed, WeighState.setZero, set, State.trackedZero]

/-- The zero step of a GOOD scan: an initial zero, a step of tracking, or none. -/
theorem State.zeroStep_good (s : State) {m : Int} (mass : s.weigh.lastMass = some m) : s.zeroStep true =
    { s with
      weigh := s.weigh.zeroed
        (if s.triesZero && s.massInRange m then m else if s.tracksZero m then s.trackedZero m else s.weigh.zero)
        s.triesZero (s.triesZero && s.massInRange m) } := by
  simp only [State.zeroStep, mass]
  cases set : s.weigh.zeroSet
  · rw [if_neg (by simp), s.initialZero_eq m set]
    simp [State.tracksZero, set]
  · rw [if_pos rfl, s.trackZero_eq m set]
    simp [State.triesZero, set]

/-! ### The whole scan -/

/-- The station after stages 1 to 3 of a GOOD scan, with its weight answer taken. -/
def State.judged (s : State) (weighs presence : Bool) : State :=
  ({ s with
    weigh := s.weigh.weighed s.retained.cal s.cfg, deck := s.deck.weighed weighs presence } : State).gives
    (s.presenceTold presence)

/-- The scan as a measurement that takes scans is given it (R177). -/
def State.scanGiven (s : State) : List Posted :=
  if s.takingScans then [.event (.calScan (.good s.weigh.counts (sumOfCounts s.retained.cal s.weigh.counts)))] else []

/-- The station after stage 4, the capture given or not and the scan handed to a measurement. -/
def State.handedOn (s : State) (weighs presence captured : Bool) : State :=
  (({ s.judged weighs presence with
    weigh := { s.weigh.weighed s.retained.cal s.cfg with
      captureRequest := s.weigh.captureRequest && !captured } } : State).gives
    (captureGiven captured (s.weigh.status s.retained.cal))).gives s.scanGiven

/-- Z after the zero step of a GOOD scan, where the initial zero was taken or not. -/
def State.steppedZero (s : State) (takes : Bool) (m : Int) : Int :=
  if takes then m else if s.tracksZero m then s.trackedZero m else s.weigh.zero

/-- The whole of a GOOD scan's end (R10), with what the conditions of its stages come to. -/
theorem State.endScan_good (s : State) {first : Channel} {weighs presence captured tries takes : Bool} {zero : Int}
    (head : (scanList s.cfg.channelMap).head? = some first)
    (hw : weightIsPresent s.retained.cal.interval (s.weigh.status s.retained.cal) = weighs)
    (hp : (s.cfg.deckLoopFitted && s.active? .deckLoop || weighs) = presence)
    (hc : (s.judged weighs presence).captureHolds = captured) (ht : (s.judged weighs presence).triesZero = tries)
    (hk : (tries && (s.judged weighs presence).massInRange (s.weigh.mass s.retained.cal)) = takes)
    (hz : (s.judged weighs presence).steppedZero takes (s.weigh.mass s.retained.cal) = zero) :
    s.endScan none = { s.handedOn weighs presence captured with
      weigh := { (s.handedOn weighs presence captured).weigh.zeroed zero tries takes with
        select := some first, answerLimit := some 50, counts := [] } } := by
  have zeroed := (s.handedOn weighs presence captured).zeroStep_good (m := s.weigh.mass s.retained.cal) rfl
  have answered := State.takeWeightAnswer_gives { s with weigh := s.weigh.weighed s.retained.cal s.cfg } hw hp
  subst ht hk hz
  exact (State.endScan_stages s.measureScan_good answered (State.giveCapture_gives _ hc) (State.postIf_gives _ _ _)
    zeroed).trans (State.beginScan_first head)

/-- Settles O13. -/
theorem goodScanWeighs : Obligations.GoodScanWeighs := by
  intro s c first x y z live selected head last low high cal d most counts sum mass status monitor window stable weighs
    loop presence clear fault told captured capture quiet tries takes off tracks zero
  let kept := s.keepCount c (fromBeSigned [x, y, z])
  let b := kept.judged weighs presence
  have captures : b.captureHolds = captured := b.captureHolds_eq
  have isQuiet : b.quiet = quiet := b.quiet_eq Weight.stable_valid
  have isTried : b.triesZero = tries := by
    rw [State.triesZero, isQuiet]
    rfl
  have isTracked : b.tracksZero mass = tracks := by
    rw [State.tracksZero, isQuiet]
    rfl
  have isStepped : b.steppedZero takes mass = zero := by
    rw [State.steppedZero, isTracked, b.trackedZero_eq]
    rfl
  rw [exec_sample_count live selected, State.takeCount_last (isExtreme_false low high) last]
  exact congrArg _ (kept.endScan_good head rfl rfl captures isTried rfl isStepped)

end Sys2Proof.Machine
end

section
/-! PROOFS. WEIGHING at the lane (4.5, 4.6): its ways out, the claim it goes on to, and the placing of the lane's frame. -/

namespace Sys2Proof.Machine

section
variable {s : State} (takes : s.laneTakes = true)
include takes

theorem exec_laneConverterFailed : exec .laneConverterFailed s =
    .next (if s.lane.state = .weighing then (s.took .laneConverterFailed).enterAssist .converterFail
      else s.took .laneConverterFailed) := by
  show execLaneConverterFailed s = _
  rw [execLaneConverterFailed, State.whenLane_takes _ (by simpa using takes)]
  rfl

theorem exec_stabilityLimitExpiry : exec .stabilityLimitExpiry s =
    .next (if s.lane.stabilityLimit.isSome ∧ s.lane.state = .weighing then s.enterAssist .noCapture else s) := by
  show execStabilityLimitExpiry s = _
  rw [execStabilityLimitExpiry, State.whenLane_takes _ takes]

theorem exec_stationActive : exec .stationActive s =
    .next (if s.lane.state = .weighing ∧ s.lane.waitActive then
        ({ s.took .stationActive with lane := { s.lane with waitActive := false } } : State).goOn
      else s.took .stationActive) := by
  show execStationActive s = _
  rw [execStationActive, State.whenLane_takes _ (by simpa using takes)]
  rfl

theorem exec_laneFramePlaced (k : PlacedKind) (n : VisitNumber) : exec (.laneFramePlaced k n) s =
    .next (if s.lane.awaits k n then (s.took (.laneFramePlaced k n)).framePlaced k
      else s.took (.laneFramePlaced k n)) := by
  show execLaneFramePlaced k n s = _
  rw [execLaneFramePlaced, State.whenLane_takes _ (by simpa using takes)]
  rfl

end

/-! ### The claim (R67, R121) -/

theorem State.goOn_inbound {s : State} (h : s.lane.record.direction = some .inbound) : s.goOn = s.goClaim := by
  simp only [State.goOn, h]

@[simp] theorem State.requestKind_lane (s : State) (token : Token) (c : Category) :
    (s.requestKind token c).lane = s.lane := by
  unfold State.requestKind
  dsimp only
  split <;> rfl

@[simp] theorem State.requestKind_posted (s : State) (token : Token) (c : Category) :
    (s.requestKind token c).posted = s.posted := by
  unfold State.requestKind
  dsimp only
  split <;> rfl

theorem State.kindAnswer_closed {s : State} (token : Token) {c : Category} (h : s.store.tariff[c] = none) :
    s.kindAnswer token c = .closed := by
  simp only [State.kindAnswer, h]

theorem State.goClaim_joining {s : State} (h : s.joining = true) :
    s.goClaim = { s with lane := { s.lane with sign := .wait, waitActive := true } } := by
  rw [State.goClaim, if_pos h]
  rfl

section
variable {s : State} {token : Token} {c : Category} (joined : s.joining = false)
  (holdsToken : s.lane.record.token = some token) (holdsCategory : s.lane.record.category = some c)
include joined holdsToken holdsCategory

theorem State.goClaim_closed (h : s.kindAnswer token c = .closed) :
    s.goClaim = (s.requestKind token c).enterAssist .categoryClosed := by
  rw [State.goClaim, if_neg (by simp [joined])]
  simp only [holdsToken, holdsCategory, h]

theorem State.goClaim_given {weight : Nat} {time : Option DepotTime} {kind : Kind} {rate : Nat} {tare : Option Nat}
    (captured : s.lane.record.capture = some (weight, time)) (h : s.kindAnswer token c = .given kind rate tare) :
    s.goClaim = { s.requestKind token c with
      lane := { s.lane with
        asked := some .claim
        record := { s.lane.record with kind := some kind, rate := some rate, tare := tare } }
      posted := s.posted ++ [.event (.claimRequest
        { token, kind, category := c, rate, weight, time, tare, manual := s.lane.record.manual })] } := by
  rw [State.goClaim, if_neg (by simp [joined])]
  simp only [holdsToken, holdsCategory, h, State.askClaim, State.withRecord, TxnRecord.claim, captured,
    State.requestKind_lane]
  simp only [State.askFrame, State.post, State.requestKind_posted]

end

/-! ### The frame placed (R67, R68, R70, R79) -/

/-- The frame the lane asked for, by the kind placed. -/
theorem Lane.awaits_iff (l : Lane) (k : PlacedKind) (n : VisitNumber) : l.awaits k n = true ↔
    l.record.visitRef = some n ∧
      (k = .claim ∧ (l.asked = some .claim ∨ l.asked = some .reclaim) ∨ k = .close ∧ l.asked = some .close) := by
  unfold Lane.awaits
  rw [Bool.and_eq_true, beq_iff_eq]
  refine and_congr_right fun _ => ?_
  split <;> simp_all

/-- The lane after its frame is placed: the state, the progress and the sign of that state. -/
theorem State.framePlaced_eq (s : State) (k : PlacedKind) (l : LaneState) (p : Progress)
    (h : k = .claim ∧ l = .claiming ∧ p = .claimOut ∨ k = .close ∧ l = .closing ∧ p = .closeOut) :
    s.framePlaced k = State.report { s.requestHeads none with
      weigh := { s.weigh with captureRequest := false }
      lane := { s.lane with
        asked := none, state := l, sign := .weighing, waitActive := false, leg := .rising
        record := { s.lane.record with progress := p, assist := none } } } := by
  rcases h with ⟨rfl, rfl, rfl⟩ | ⟨rfl, rfl, rfl⟩ <;> rfl

/-- Settles O34, through what each of the four events does to the lane and through the claim that `goOn` makes. -/
theorem weighingEndsOrItsFrameIsPlaced : Obligations.WeighingEndsOrItsFrameIsPlaced := by
  refine ⟨fun s takes => ⟨fun weighing => ⟨?_, fun runs => ?_, fun stopped => ?_, fun still => ?_,
      fun waits token c weight time inbound holdsToken holdsCategory captured => ?_⟩, fun other => ⟨?_, ?_, ?_⟩⟩,
    fun s n takes => ?_⟩
  · rw [exec_laneConverterFailed takes, if_pos weighing]
  · rw [exec_stabilityLimitExpiry takes, if_pos ⟨runs, weighing⟩]
  · rw [exec_stabilityLimitExpiry takes, if_neg (by simp [stopped])]
  · rw [exec_stationActive takes, if_neg (by simp [still])]
  · intro on
    have goes : exec .stationActive s = .next on.goClaim := by
      rw [exec_stationActive takes, if_pos ⟨weighing, waits⟩]
      exact congrArg _ (State.goOn_inbound (s := on) inbound)
    rw [goes]
    refine ⟨fun joining => ?_, fun joined closed => ?_, fun kind rate tare joined answer => ?_⟩
    · rw [State.goClaim_joining (s := on) joining, ← waits]
    · exact congrArg _ (State.goClaim_closed (s := on) joined holdsToken holdsCategory
        (State.kindAnswer_closed token closed))
    · exact congrArg _ (State.goClaim_given (s := on) joined holdsToken holdsCategory captured answer)
  · rw [exec_laneConverterFailed takes, if_neg other]
  · rw [exec_stabilityLimitExpiry takes, if_neg (fun h => other h.2)]
  · rw [exec_stationActive takes, if_neg (fun h => other h.1)]
  · intro moved
    refine ⟨fun ref => ⟨fun asked => ?_, fun asked => ?_⟩, fun h k => ?_⟩
    · rw [exec_laneFramePlaced takes, if_pos ((s.lane.awaits_iff _ n).2 ⟨ref, .inl ⟨rfl, asked⟩⟩),
        State.framePlaced_eq _ _ .claiming .claimOut (.inl ⟨rfl, rfl, rfl⟩)]
      rfl
    · rw [exec_laneFramePlaced takes, if_pos ((s.lane.awaits_iff _ n).2 ⟨ref, .inr ⟨rfl, asked⟩⟩),
        State.framePlaced_eq _ _ .closing .closeOut (.inr ⟨rfl, rfl, rfl⟩)]
      rfl
    · rw [exec_laneFramePlaced takes, if_neg]
      rw [s.lane.awaits_iff]
      rintro ⟨ref, asked⟩
      rcases h with h | h
      · exact h ref
      · simp [h] at asked

end Sys2Proof.Machine
end

section
/-! PROOFS. The entries of the lane into ASSIST, IDLE and WEIGHING (4.2, 4.5, 4.8): what each does, in its order. -/

namespace Sys2Proof.Machine

/-! ### ASSIST (R78) -/

theorem State.withdrawOutsideAssist_eq (s : State) :
    let leaves := s.lane.state ≠ .assist ∧ s.lane.asked.isSome = true
    s.withdrawOutsideAssist = { s with
      lane := { s.lane with asked := if leaves then none else s.lane.asked }
      posted := if leaves then s.posted.filter (fun p => !isFrameRequest p) ++ [.event .frameWithdraw]
        else s.posted } := by
  intro leaves
  unfold State.withdrawOutsideAssist State.withdraw
  by_cases inAssist : s.lane.state = .assist
  · rw [if_pos inAssist, if_neg (fun h : leaves => h.1 inAssist), if_neg (fun h : leaves => h.1 inAssist)]
  · rw [if_neg inAssist]
    by_cases asked : s.lane.asked.isSome = true
    · rw [if_pos asked, if_pos (show leaves from ⟨inAssist, asked⟩), if_pos (show leaves from ⟨inAssist, asked⟩)]
      rfl
    · rw [if_neg asked, if_neg (fun h : leaves => asked h.2), if_neg (fun h : leaves => asked h.2)]

/-- The withdrawal that TICKETING gives of the issue that waits (R130). -/
def Lane.issueWithdrawn (l : Lane) : List Posted :=
  match l.state, l.record.visitRef with
  | .ticketing, some n => [.event (.issueWithdraw n)]
  | _, _ => []

theorem Lane.issueWithdrawn_ticketing {l : Lane} {n : VisitNumber} (ticketing : l.state = .ticketing)
    (ref : l.record.visitRef = some n) : l.issueWithdrawn = [.event (.issueWithdraw n)] := by
  simp only [Lane.issueWithdrawn, ticketing, ref]

theorem Lane.issueWithdrawn_none {l : Lane}
    (noIssue : ∀ n, l.state = .ticketing → l.record.visitRef = some n → False) : l.issueWithdrawn = [] := by
  unfold Lane.issueWithdrawn
  split
  · rename_i ticketing ref
    exact absurd ref (noIssue _ ticketing)
  · rfl

theorem State.withdrawIssue_gives (s : State) : s.withdrawIssue = s.gives s.lane.issueWithdrawn := by
  unfold State.withdrawIssue
  split
  · rename_i ticketing ref
    rw [Lane.issueWithdrawn_ticketing ticketing ref]
    rfl
  · rename_i noIssue
    rw [Lane.issueWithdrawn_none noIssue, State.gives_nil]

theorem progressInAssist_eq (r : Reason) (p : Progress) :
    progressInAssist r p = if r = .duplicate ∨ r = .unmatched then .none else p := by
  cases r <;> rfl

theorem State.enterAssist_eq (s : State) (r : Reason) :
    let leaves := s.lane.state ≠ .assist ∧ s.lane.asked.isSome = true
    s.enterAssist r = ((State.raiseHelp { s.requestHeads none with
      weigh := { s.weigh with captureRequest := false }
      posted := (if leaves then s.posted.filter (fun p => !isFrameRequest p) ++ [.event .frameWithdraw]
        else s.posted) ++ s.lane.issueWithdrawn
      lane := { s.lane with
        state := .assist, sign := .seeOffice, idWait := none, stabilityLimit := none, clearDeckLimit := none
        waitActive := false, leg := .rising, asked := if leaves then none else s.lane.asked
        record := { s.lane.record with
          assist := some r
          progress := if r = .duplicate ∨ r = .unmatched then .none else s.lane.record.progress } } } r)).report := by
  intro leaves
  unfold State.enterAssist
  rw [State.withdrawOutsideAssist_eq, State.withdrawIssue_gives]
  dsimp only
  rw [progressInAssist_eq]
  rfl

/-! ### IDLE (R57, R62): the barriers are lowered whatever the record and the weighing channel hold -/

/-- A state with another lane record and weighing channel beside its barriers. -/
def State.beside (s : State) (l : Lane) (w : WeighState) : State := { s with lane := l, weigh := w }

section
variable (s : State) (l : Lane) (w : WeighState) (e : End)

@[simp] theorem State.beside_barrier : (s.beside l w).barrier e = s.barrier e := by cases e <;> rfl

@[simp] theorem State.beside_active (i : Input) : (s.beside l w).active? i = s.active? i := rfl

@[simp] theorem State.beside_setBarrier (b : BarrierUnit) :
    (s.beside l w).setBarrier e b = (s.setBarrier e b).beside l w := by cases e <;> rfl

@[simp] theorem State.beside_postLane (i : Instr) : (s.beside l w).postLane i = (s.postLane i).beside l w :=
  (apply_ite (State.beside · l w) (s.deck.reportSent = true) (s.post i) s).symm

@[simp] theorem State.beside_enterFault (r : FaultReason) :
    (s.beside l w).enterFault e r = (s.enterFault e r).beside l w := by
  simp only [State.enterFault, State.beside_barrier, State.beside_setBarrier, State.beside_postLane]
  split <;> rfl

@[simp] theorem State.beside_takeDownLimit : (s.beside l w).takeDownLimit e = (s.takeDownLimit e).beside l w := by
  simp only [State.takeDownLimit, State.beside_barrier, State.beside_active, State.beside_setBarrier,
    State.beside_postLane, State.beside_enterFault]
  split
  · rfl
  · split
    · rfl
    · split <;> rfl

@[simp] theorem State.beside_startFall : (s.beside l w).startFall e = (s.startFall e).beside l w := by
  have sameLimit : (s.beside l w).cfg = s.cfg := rfl
  simp only [State.startFall, sameLimit, State.beside_barrier, State.beside_active, State.beside_setBarrier,
    State.beside_takeDownLimit]
  split <;> rfl

theorem State.beside_lowerBarrier : ((s.beside l w).lowerBarrier e).1 = (s.lowerBarrier e).1.beside l w := by
  simp only [State.lowerBarrier, State.beside_barrier, State.beside_active, State.beside_setBarrier,
    State.beside_startFall]
  cases (s.barrier e).state with
  | fault | down | falling | rising => rfl
  | up => dsimp only; split <;> rfl

end

theorem State.enterIdle_eq (s : State) :
    let lowered := ((s.lowerBarrier .a).1.lowerBarrier .b).1
    s.enterIdle = (State.report { lowered.requestHeads none with
      weigh := { s.weigh with captureRequest := false }
      posted := lowered.posted ++ [.event .ready]
      lane := { s.lane with
        state := .idle, record := {}, sign := if s.lane.calHold then .stop else .blank, help := .none
        asked := none, ticketed := false, waitActive := false, leg := .rising
        idWait := none, stabilityLimit := none, clearDeckLimit := none } }) := by
  intro lowered
  have cleared : ((s.withRecord {}).stopLaneTimers).closeCapture =
      s.beside { s.lane with record := {}, idWait := none, stabilityLimit := none, clearDeckLimit := none }
        { s.weigh with captureRequest := false } := rfl
  unfold State.enterIdle
  rw [cleared]
  dsimp only
  rw [State.beside_lowerBarrier, State.beside_lowerBarrier]
  rfl

/-! ### WEIGHING (R66, R120) -/

@[simp] theorem State.report_lane (s : State) : s.report.lane = s.lane := by
  obtain ⟨l, e, -⟩ := s.report_shape
  rw [e]

@[simp] theorem State.report_store (s : State) : s.report.store = s.store := by
  obtain ⟨l, e, -⟩ := s.report_shape
  rw [e]

/-- A stored tare is expired where the clock and an expiry stand, and the day is past it (R116). -/
theorem TareRecord.expired_iff (clock : Option DepotTime) (r : TareRecord) :
    r.expired clock = true ↔ ∃ t day, clock = some t ∧ r.expiry = some day ∧ day < t.day := by
  cases clock <;> cases h : r.expiry <;> simp [TareRecord.expired, h]

section
variable {t : TareStore} {clock : Option DepotTime} {token : Token}

theorem TareStore.unexpired_found {r : TareRecord} (found : t.find token = some r) (live : ¬ r.expired clock = true) :
    t.unexpired clock token = some r := by
  simp only [TareStore.unexpired, found, if_neg live]

theorem TareStore.unexpired_none
    (h : t.find token = none ∨ ∃ r, t.find token = some r ∧ r.expired clock = true) :
    t.unexpired clock token = none := by
  rcases h with missing | ⟨r, found, expired⟩
  · simp only [TareStore.unexpired, missing]
  · simp only [TareStore.unexpired, found, if_pos expired]

theorem TareStore.lookedUp_some {r : TareRecord} (h : t.unexpired clock token = some r) :
    t.lookedUp clock token = { t with tares := t.tares.filter (fun r => r.token != token) ++ [r] } := by
  simp only [TareStore.lookedUp, h, TareStore.drop]

theorem TareStore.lookedUp_none (h : t.unexpired clock token = none) : t.lookedUp clock token = t := by
  simp only [TareStore.lookedUp, h]

end

/-- What WEIGHING sets before its category is resolved (R66, R60). -/
def State.startWeighing (s : State) : State :=
  { s.requestHeads none with
    weigh := { s.weigh with captureRequest := true, window := [] }
    lane := { s.lane with
      state := .weighing, sign := .weighing, stabilityLimit := some s.cfg.stabilityLimit
      waitActive := false, leg := .rising, record := { s.lane.record with assist := none, capture := none } } }

/-- The category resolved, with the store's table after the lookup (R120). -/
def State.resolved (s : State) (tares : List TareRecord) (c : Category) : State :=
  { s with
    store := { s.store with tares := tares }
    answers := { s.answers with category := some c }
    lane := { s.lane with record := { s.lane.record with category := some c } } }

/-- The step after the category: the closed question, and ASSIST where the answer is CLOSED (R120). -/
def State.askAfter (s : State) : State :=
  let u := s.report.askHeldClosed
  if u.heldClosed then u.enterAssist .categoryClosed else u

theorem State.enterWeighing_inbound {s : State} (h : s.lane.record.direction = some .inbound) :
    s.enterWeighing = s.startWeighing.settleCategory.askAfter := if_pos h

theorem State.enterWeighing_outbound {s : State} (h : s.lane.record.direction ≠ some .inbound) :
    s.enterWeighing = s.startWeighing.report := if_neg h

section
variable {s : State}

theorem State.settleCategory_held {c : Category} (h : s.lane.record.category = some c) : s.settleCategory = s := by
  simp only [State.settleCategory, h]

theorem State.settleCategory_noToken (h : s.lane.record.token = none) : s.settleCategory = s := by
  unfold State.settleCategory
  split
  · simp_all
  · rfl

section
variable {token : Token} (noCategory : s.lane.record.category = none) (holdsToken : s.lane.record.token = some token)
include noCategory holdsToken

theorem State.settleCategory_asked :
    s.settleCategory =
      let r := s.resolveCategory token s.lane.record.readerCategory
      r.1.withRecord { r.1.lane.record with category := some r.2 } := by
  unfold State.settleCategory
  split
  · rename_i held
    cases held.symm.trans holdsToken
    rfl
  · rename_i noLookup
    exact absurd holdsToken (noLookup _ noCategory)

theorem State.settleCategory_reader {c : Category} (reader : s.lane.record.readerCategory = some c) :
    s.settleCategory = s.resolved s.store.tares c := by
  rw [State.settleCategory_asked noCategory holdsToken, reader]
  rfl

theorem State.settleCategory_tare {r : TareRecord} (noReader : s.lane.record.readerCategory = none)
    (found : s.store.unexpired s.peers.clock token = some r) :
    s.settleCategory =
      s.resolved (s.store.tares.filter (fun t => t.token != token) ++ [r]) (r.category.getD 0) := by
  rw [State.settleCategory_asked noCategory holdsToken, noReader]
  simp only [State.resolveCategory, found, TareStore.lookedUp_some found]
  rfl

theorem State.settleCategory_default (noReader : s.lane.record.readerCategory = none)
    (missing : s.store.unexpired s.peers.clock token = none) :
    s.settleCategory = s.resolved s.store.tares 0 := by
  rw [State.settleCategory_asked noCategory holdsToken, noReader]
  simp only [State.resolveCategory, missing, TareStore.lookedUp_none missing]
  rfl

end

theorem State.askAfter_noCategory (h : s.lane.record.category = none) : s.askAfter = s.report := by
  simp only [State.askAfter, State.askHeldClosed, State.heldClosed, State.report_lane, h]
  rfl

section
variable {c : Category} (held : s.lane.record.category = some c)
include held

theorem State.askAfter_eq : s.askAfter =
    if s.store.tariff[c].isNone then (s.report.askClosed c).enterAssist .categoryClosed
    else s.report.askClosed c := by
  have asked : s.report.askHeldClosed = s.report.askClosed c := by
    simp only [State.askHeldClosed, State.report_lane, held]
  have closed : (s.report.askClosed c).heldClosed = s.store.tariff[c].isNone := by
    simp only [State.heldClosed, State.askClosed, State.isClosed, State.report_lane, State.report_store, held,
      Option.map_some, Option.getD_some]
  simp only [State.askAfter, asked, closed]

theorem State.askAfter_rated {rate : Nat} (h : s.store.tariff[c] = some rate) : s.askAfter = s.report.askClosed c := by
  rw [State.askAfter_eq held, h]
  rfl

theorem State.askAfter_closed (h : s.store.tariff[c] = none) :
    s.askAfter = (s.report.askClosed c).enterAssist .categoryClosed := by
  rw [State.askAfter_eq held, h]
  rfl

end

/-- An inbound entry goes on by the category that `t` holds. -/
theorem State.enterWeighing_goesOn {t : State} {c : Category} (entry : s.enterWeighing = t.askAfter)
    (held : t.lane.record.category = some c) (tariff : t.store.tariff = s.store.tariff) :
    (∀ rate, s.store.tariff[c] = some rate → s.enterWeighing = t.report.askClosed c) ∧
      (s.store.tariff[c] = none → s.enterWeighing = (t.report.askClosed c).enterAssist .categoryClosed) := by
  rw [← tariff, entry]
  exact ⟨fun _ => State.askAfter_rated held, State.askAfter_closed held⟩

end

/-- Settles O25: the entry into WEIGHING resolves its category by the cases of R120, and all of them go on alike. -/
theorem entriesOfTheLaneTakeTheirSteps : Obligations.EntriesOfTheLaneTakeTheirSteps := by
  refine ⟨⟨fun s r => s.enterAssist_eq r, State.enterIdle_eq⟩, fun s => ?_⟩
  intro entered goesOn resolved expired
  have settled {u : State} (inbound : s.lane.record.direction = some .inbound)
      (h : s.startWeighing.settleCategory = u) : s.enterWeighing = u.askAfter :=
    h ▸ State.enterWeighing_inbound inbound
  refine ⟨fun h => State.enterWeighing_outbound h, fun c inbound held => ?_,
    fun token inbound noCategory holdsToken => ⟨fun c reader => ?_,
      fun noReader => ⟨fun r found live => ?_, fun missing => ?_⟩⟩,
    fun inbound noCategory noToken => ?_⟩
  · exact State.enterWeighing_goesOn (settled inbound (State.settleCategory_held held)) held rfl
  · exact State.enterWeighing_goesOn
      (settled inbound (State.settleCategory_reader (s := s.startWeighing) noCategory holdsToken reader)) rfl rfl
  · have unexpired := TareStore.unexpired_found found (mt (r.expired_iff s.peers.clock).1 live)
    exact State.enterWeighing_goesOn
      (settled inbound (State.settleCategory_tare (s := s.startWeighing) noCategory holdsToken noReader unexpired))
      rfl rfl
  · have none := TareStore.unexpired_none (missing.imp_right fun ⟨r, found, h⟩ =>
      ⟨r, found, (r.expired_iff s.peers.clock).2 h⟩)
    exact State.enterWeighing_goesOn
      (settled inbound (State.settleCategory_default (s := s.startWeighing) noCategory holdsToken noReader none))
      rfl rfl
  · rw [settled inbound (State.settleCategory_noToken noToken)]
    exact State.askAfter_noCategory (s := s.startWeighing) noCategory

end Sys2Proof.Machine
end

section
/-! PROOFS. The step, and what every command leaves of the commands that wait (logs 1, 2, 34). -/

namespace Sys2Proof.Machine

/-- Settles O1. -/
theorem stepTakesFrontCommand : Obligations.StepTakesFrontCommand := by
  refine ⟨fun c rest s => rfl, fun i rest s idle given => ?_, fun target code rest s idle given => ?_,
    fun s idle given => ?_⟩
  all_goals simp only [step, idle, State.takePosted, given]

/-! ### The six commands that write the straps, the configuration or the retained values -/

theorem State.settleImage_pending (s : State) (image : List Byte) : (s.settleImage image).pending = s.pending := by
  unfold State.settleImage
  split <;> rfl

theorem execBootCountCommitDone_pending (s : State) :
    ∃ t, execBootCountCommitDone s = .next t ∧ t.pending = s.pending := by
  refine ⟨_, rfl, ?_⟩
  split <;> rfl

theorem execConfigByte_pending (byte : Byte) (s : State) :
    ∃ t, execConfigByte byte s = .next t ∧ t.pending = s.pending := by
  refine ⟨_, rfl, ?_⟩
  split
  · extract_lets image loader t
    split
    · exact t.settleImage_pending image
    · rfl
  · rfl

theorem execConfigByteTimeout_pending (s : State) :
    ∃ t, execConfigByteTimeout s = .next t ∧ t.pending = s.pending := by
  refine ⟨_, rfl, ?_⟩
  split <;> rfl

theorem State.whenLive_pending (s : State) {f : State → State} (h : ∀ t : State, (f t).pending = t.pending) :
    (s.whenLive f).pending = s.pending := by
  unfold State.whenLive
  split
  · exact h s
  · rfl

theorem execTicketCommitDone_pending (s : State) :
    ∃ t, execTicketCommitDone s = .next t ∧ t.pending = s.pending := by
  refine ⟨_, rfl, s.whenLive_pending fun s => ?_⟩
  split
  · extract_lets retained t
    split
    · rfl
    · rename_i r committing
      exact (((t.ticketCommitted_keeps r committing).trans (State.tryPrint_keeps _)).trans
        (State.workIssue_keeps _)).pending
  · rfl

theorem State.applyWrite_pending (s : State) (w : CalWrite) : (s.applyWrite w).pending = s.pending :=
  ((State.oweNotice_keeps _ _).trans (State.endRequest_keeps _ w)).pending

theorem execCalCommitDone_pending (s : State) :
    ∃ t, execCalCommitDone s = .next t ∧ t.pending = s.pending := by
  refine ⟨_, rfl, s.whenLive_pending fun s => ?_⟩
  split
  · exact s.applyWrite_pending _
  · rfl

/-- Settles O2: all commands but six keep the queue by `exec_keeps`; those six are taken one by one. -/
theorem everyCommandCompletesAndKeepsTheQueue : Obligations.EveryCommandCompletesAndKeepsTheQueue := by
  intro i s
  cases writes : writesKept i
  case false =>
    obtain ⟨t, answer, kept⟩ := exec_keeps i s writes
    exact ⟨t, answer, kept.pending⟩
  case true =>
    cases i
    case reset => exact ⟨_, rfl, rfl⟩
    case bootCountCommitDone => exact execBootCountCommitDone_pending s
    case configByte => exact execConfigByte_pending _ s
    case configByteTimeout => exact execConfigByteTimeout_pending s
    case ticketCommitDone => exact execTicketCommitDone_pending s
    case calCommitDone => exact execCalCommitDone_pending s
    all_goals cases writes

end Sys2Proof.Machine
end

section
/-! PROOFS. The deck sensor unit (chapter 2): the first sample, the debounce filters, where a debounced change goes, and
the direction choice. -/

namespace Sys2Proof.Machine

theorem inputIndex_eq_deckLoop (i : Input) : i.index = Input.deckLoop.index ↔ i = .deckLoop := by
  cases i
  case deckLoop | help => decide
  case approach e | safety e | beam e | upLimit e | downLimit e | motorFault e => cases e <;> decide

theorem State.filtered_iff (s : State) (i : Input) : s.filtered i = true ↔ i ≠ .deckLoop ∨ s.cfg.deckLoopFitted = true := by
  simp [State.filtered]

/-! ### The first sample (R25, R27, R50) -/

/-- Each input is sampled as its raw state, and as inactive where it is not filtered (R25, R27). -/
theorem State.sampledInputs_get (s : State) (i : Input) : s.sampledInputs[i.index] = (s.raw i && s.filtered i) := by
  have place : (i.index != Input.deckLoop.index) = (i != Input.deckLoop) := by
    rw [Bool.eq_iff_iff, bne_iff_ne, bne_iff_ne, ne_eq, ne_eq, inputIndex_eq_deckLoop]
  simp only [State.sampledInputs, Fin.getElem_fin, Vector.getElem_ofFn, State.raw, State.filtered, ← place]

/-- The state with every input sampled, before the barrier units start (R27). -/
def State.withSample (s : State) (inputs : Vector Bool 14) : State :=
  { s.took .firstSample with
    deck := { s.deck with
      sampled := true, debounced := inputs
      armed := !inputs[(Input.beam .a).index] && !inputs[(Input.beam .b).index] } }

/-- The state with every input sampled and the barrier units started (R27, R50). -/
def State.firstSampled (s : State) (inputs : Vector Bool 14) : State :=
  { s.withSample inputs with
    barrierA := (s.withSample inputs).startingBarrier .a, barrierB := (s.withSample inputs).startingBarrier .b }

theorem exec_firstSample {s : State} (live : s.live = true) (fresh : s.deck.sampled = false) :
    exec .firstSample s = .next (s.firstSampled s.sampledInputs) := by
  show execFirstSample s = _
  rw [execFirstSample, State.whenLive_live _ (by simpa using live), if_neg (by simp [fresh])]
  rfl

/-- The table of R50, read by columns: the state, the reason and the travel timer that its rows give. -/
theorem State.startingBarrier_eq (s : State) (e : End) : s.startingBarrier e = { s.barrier e with
    lowerPending := false
    state :=
      if s.active? (.upLimit e) = true ∧ s.active? (.downLimit e) = true then .fault
      else if s.active? (.motorFault e) = true then .fault
      else if s.active? (.upLimit e) = true then .up
      else if s.active? (.downLimit e) = true then .down
      else .rising
    reason :=
      if s.active? (.upLimit e) = true ∧ s.active? (.downLimit e) = true then some .limitConflict
      else if s.active? (.motorFault e) = true then some .motorFault
      else none
    travel :=
      if s.active? (.upLimit e) = true ∨ s.active? (.downLimit e) = true ∨ s.active? (.motorFault e) = true ∨
          s.offline = true then none
      else some s.cfg.travelLimit } := by
  unfold State.startingBarrier
  by_cases conflict : s.active? (.upLimit e) = true ∧ s.active? (.downLimit e) = true
  · simp [conflict]
  · by_cases motor : s.active? (.motorFault e) = true
    · simp [conflict, motor]
    · by_cases up : s.active? (.upLimit e) = true
      · have down : s.active? (.downLimit e) = false := by simpa [up] using conflict
        simp [motor, up, down]
      · by_cases down : s.active? (.downLimit e) = true <;> simp [motor, up, down]

/-- Settles O9. -/
theorem firstSampleSetsInputsAndBarriers : Obligations.FirstSampleSetsInputsAndBarriers := by
  intro s live fresh
  have sampled := s.sampledInputs_get
  refine ⟨_, exec_firstSample live fresh, ?_⟩
  generalize s.sampledInputs = inputs at sampled ⊢
  refine ⟨rfl, sampled, rfl, ?_⟩
  rintro (_ | _)
  · exact (s.withSample inputs).startingBarrier_eq .a
  · exact (s.withSample inputs).startingBarrier_eq .b

/-! ### The debounce filter (R23 to R25) -/

/-- The field line of an input at a level. -/
def State.moveLine (s : State) (i : Input) (level : Bool) : State :=
  { s with deck := { s.deck with lines := s.deck.lines.set i.index level } }

theorem State.moveLine_raw (s : State) (i : Input) (level : Bool) :
    (s.moveLine i level).raw i = (level == s.cfg.inputs[i.index].activeHigh) := by
  simp [State.raw, State.moveLine]

section
variable {s : State} {i : Input} {level : Bool} (moves : s.deck.lines[i.index] ≠ level)
include moves

theorem exec_rawInputChange_unfiltered (h : (s.live && s.deck.sampled && s.filtered i) = false) :
    exec (.rawInputChange i level) s = .next (s.moveLine i level) := by
  show execRawInputChange i level s = _
  rw [execRawInputChange, if_neg moves]
  exact congrArg Host.Outcome.next (if_neg (Bool.eq_false_iff.1 h))

theorem exec_rawInputChange_filtered (h : (s.live && s.deck.sampled && s.filtered i) = true) :
    exec (.rawInputChange i level) s = .next { s with deck := { (s.moveLine i level).deck with
      timers := s.deck.timers.set i.index
        (filterTimer s.cfg.inputs[i.index].debounce (level == s.cfg.inputs[i.index].activeHigh) (s.active? i)
          s.deck.timers[i.index]) } } := by
  show execRawInputChange i level s = _
  rw [execRawInputChange, if_neg moves, ← s.moveLine_raw]
  exact congrArg Host.Outcome.next (if_pos h)

end

/-- Settles O16. -/
theorem rawChangeStartsAndStopsTheFilter : Obligations.RawChangeStartsAndStopsTheFilter := by
  intro s i level line
  have moves : s.deck.lines[i.index] ≠ level := by simp [line]
  refine ⟨fun h => exec_rawInputChange_unfiltered moves ?_, fun live sampled filtered => ?_⟩
  · rcases h with h | h | ⟨rfl, h⟩ <;> simp [State.filtered, h]
  · exact exec_rawInputChange_filtered moves (by simp [live, sampled, (s.filtered_iff i).2 filtered])

/-! ### A debounced change is handed on (R24, R26) -/

/-- The debounced state of an input set, with its timer stopped (R24). -/
def State.debounces (s : State) (i : Input) (active : Bool) : State :=
  { s with deck := { s.deck with
      timers := s.deck.timers.set i.index none, debounced := s.deck.debounced.set i.index active } }

@[simp] theorem State.debounces_active (s : State) (i : Input) (active : Bool) :
    (s.debounces i active).active? i = active := by
  simp [State.active?, State.debounces]

theorem State.debounces_formedPresence {s : State} (fitted : s.cfg.deckLoopFitted = true) (active : Bool) :
    (s.debounces .deckLoop active).formedPresence = (active || s.deck.weightPresent) := by
  show (s.cfg.deckLoopFitted && (s.debounces .deckLoop active).active? .deckLoop || s.deck.weightPresent) = _
  rw [fitted, State.debounces_active, Bool.true_and]

/-- The change of an input to a debounced state, handed to the blocks that own it (R26). -/
def State.handChange (s : State) (i : Input) (active : Bool) : State :=
  if active then (s.debounces i true).handActivation i else (s.debounces i false).handRelease i

theorem exec_debounceExpiry {s : State} {i : Input} (live : s.live = true)
    (running : s.deck.timers[i.index].isSome = true) :
    exec (.debounceExpiry i) s = .next (s.handChange i (s.raw i)) := by
  show execDebounceExpiry i s = _
  have taken : s.takeRaw i = s.debounces i (s.raw i) := rfl
  rw [execDebounceExpiry, State.whenLive_live _ live, if_pos running, taken]
  simp only [State.debounces_active, State.handChange]
  cases s.raw i <;> rfl

theorem State.postLane_gives (s : State) (i : Instr) :
    s.postLane i = s.gives (if s.deck.reportSent then [.event i] else []) := s.postIf_gives _ i

/-- The activation of an approach loop offers its end, where the choice is OPEN and the end may be near (R35). -/
theorem State.approachActivation_offers {s : State} {e : End} {d : Direction} (opened : s.deck.choice = .opened)
    (direction : s.directionFrom e = some d) :
    s.approachActivation e = ({ s with deck := { s.deck with choice := .chosen e d, lastNear := some e } } : State).gives
      (if s.deck.reportSent then [.event (.laneApproachOffer e d)] else []) := by
  simp only [State.approachActivation, opened, direction]
  exact State.postLane_gives _ _

theorem State.approachActivation_not {s : State} {e : End}
    (h : ∀ d, s.deck.choice = .opened → s.directionFrom e = some d → False) : s.approachActivation e = s := by
  unfold State.approachActivation
  split
  · rename_i d opened direction
    exact (h d opened direction).elim
  · rfl

/-- A deck loop event forms presence anew, once the start report is sent, and the lane is told of a change (R27, R31). -/
theorem State.deckLoopEvent_gives (s : State) {presence : Bool}
    (formed : (if s.deck.reportSent then s.formedPresence else s.deck.presence) = presence) :
    s.deckLoopEvent = ({ s with deck := { s.deck with presence := presence } } : State).gives
      (if presence = s.deck.presence then [] else [.event (.lanePresenceChanged presence)]) := by
  unfold State.deckLoopEvent
  cases sent : s.deck.reportSent
  · obtain rfl : s.deck.presence = presence := by simpa [sent] using formed
    rw [if_pos rfl, State.gives_nil]
    rfl
  · obtain rfl : s.formedPresence = presence := by simpa [sent] using formed
    unfold State.updatePresence
    by_cases same : s.formedPresence = s.deck.presence
    · rw [if_pos rfl, if_pos same, if_pos same, State.gives_nil, same]
    · rw [if_pos rfl, if_neg same, if_neg same, State.postLane_gives]
      simp only [sent, if_true]

/-- Settles O17: the change is handed on input by input, and the deck loop's by way of presence. -/
theorem debouncedChangeIsHandedOn : Obligations.DebouncedChangeIsHandedOn := by
  refine ⟨fun s i live running notLoop => ?_, fun s live running fitted => ?_⟩
  · intro t bothBeamsClear lane
    rw [exec_debounceExpiry live running]
    subst t bothBeamsClear lane
    dsimp only
    generalize s.raw i = active
    refine congrArg Host.Outcome.next ?_
    cases i with
    | approach e =>
      cases active
      · exact State.postLane_gives _ _
      · show (s.debounces (.approach e) true).approachActivation e = _
        dsimp only
        split
        · rename_i d opened direction
          exact State.approachActivation_offers opened direction
        · rename_i notOffered
          exact State.approachActivation_not notOffered
    | safety e => cases active <;> exact State.postLane_gives _ _
    | beam e =>
      cases active
      · exact State.postLane_gives _ _
      · simp only [State.handChange, if_true, State.handActivation, State.postLane_gives, State.postIf_gives]
        rfl
    | deckLoop => exact absurd rfl notLoop
    | upLimit e => cases active <;> rfl
    | downLimit e => cases active <;> rfl
    | motorFault e => cases active <;> rfl
    | help =>
      cases active
      · rfl
      · exact State.postLane_gives _ _
  · intro presence
    rw [exec_debounceExpiry live running]
    refine congrArg Host.Outcome.next ?_
    have event (active : Bool) := (s.debounces .deckLoop active).deckLoopEvent_gives
      (presence := if s.deck.reportSent then active || s.deck.weightPresent else s.deck.presence)
      (by rw [State.debounces_formedPresence fitted]; rfl)
    subst presence
    generalize s.raw .deckLoop = active
    cases active
    · exact (event false).trans (State.gives_nil _).symm
    · simp only [State.handChange, if_true, State.handActivation, event, State.postIf_gives, true_and]
      rfl

/-! ### The direction choice (R34, R35, R37) -/

theorem State.waitingAt_iff (s : State) (e : End) :
    s.waitingAt e = true ↔ s.active? (.approach e) = true ∧ (s.directionFrom e).isSome = true := by
  rw [State.waitingAt, Bool.and_eq_true, and_comm]

/-- READY on a station that is not OFFLINE opens the choice (R34). -/
def State.openChoice (s : State) : State := { s.took .ready with deck := { s.deck with choice := .opened } }

theorem exec_ready {s : State} (live : s.live = true) :
    exec .ready s = .next (if s.offline then s.took .ready else s.openChoice.testApproaches) := by
  show execReady s = _
  rw [execReady, State.whenLive_live _ (by simpa using live)]
  rfl

theorem exec_calHold {s : State} (live : s.live = true) :
    exec .calHold s = .next { s.took .calHold with deck := { s.deck with choice := .shut } } := by
  show execCalHold s = _
  rw [execCalHold, State.whenLive_live _ (by simpa using live)]
  rfl

/-- No vehicle waits at an end that may be near: nothing is offered (R37). -/
theorem State.testApproaches_none {s : State} (a : ¬ s.waitingAt .a = true) (b : ¬ s.waitingAt .b = true) :
    s.testApproaches = s := by
  simp only [State.testApproaches, State.readyEnd, a, b]

theorem State.readyEnd_alone {s : State} {e : End} (h : s.waitingAt e = true) (other : ¬ s.waitingAt e.other = true) :
    s.readyEnd = some e := by
  cases e <;> simp only [End.other] at other <;> simp only [State.readyEnd, h, other]

theorem State.readyEnd_both {s : State} (a : s.waitingAt .a = true) (b : s.waitingAt .b = true) :
    s.readyEnd = some s.turnEnd := by
  simp only [State.readyEnd, a, b]

theorem State.openChoice_testApproaches {s : State} {e : End} {d : Direction} (offered : s.openChoice.readyEnd = some e)
    (direction : s.directionFrom e = some d) :
    s.openChoice.testApproaches = ({ s.took .ready with
      deck := { s.deck with choice := .chosen e d, lastNear := some e } } : State).gives
        (if s.deck.reportSent then [.event (.laneApproachOffer e d)] else []) := by
  have direction : s.openChoice.directionFrom e = some d := direction
  have opened : s.openChoice.deck.choice = .opened := rfl
  simp only [State.testApproaches, offered, State.approachActivation_offers opened direction]
  rfl

/-- Settles O18: the end that READY offers is found by which loops are occupied. -/
theorem readyOffersAWaitingVehicle : Obligations.ReadyOffersAWaitingVehicle := by
  intro s live opened waits offered
  have waiting (e : End) : s.openChoice.waitingAt e = true ↔ waits e := s.openChoice.waitingAt_iff e
  have opens (on : s.offline = false) : exec .ready s = .next s.openChoice.testApproaches := by
    rw [exec_ready live, if_neg (by simp [on])]
  refine ⟨fun off => ?_, fun on a b => ?_, fun e d on direction here there => ?_, fun e d on a b turn direction => ?_,
    exec_calHold live⟩
  · rw [exec_ready live, if_pos off]
  · rw [opens on, State.testApproaches_none (mt (waiting .a).1 a) (mt (waiting .b).1 b)]
    rfl
  · rw [opens on, State.openChoice_testApproaches
      (State.readyEnd_alone ((waiting e).2 here) (mt (waiting e.other).1 there)) direction]
    rfl
  · subst turn
    rw [opens on, State.openChoice_testApproaches
      (State.readyEnd_both ((waiting .a).2 a) ((waiting .b).2 b)) direction]
    rfl

end Sys2Proof.Machine
end

section
/-! PROOFS. A removal, the ticket unit's answers and the printer's state at the lane (R38, R54, R70, R72, R101). -/

namespace Sys2Proof.Machine

section
variable {s : State} (takes : s.laneTakes = true)
include takes

theorem exec_removalReport (n : VisitNumber) : exec (.removalReport n) s =
    .next (if s.lane.state = .held ∧ s.lane.asked = none then (s.took (.removalReport n)).askReclaim
      else s.took (.removalReport n)) := by
  show execRemovalReport n s = _
  rw [execRemovalReport, State.whenLane_takes _ (by simpa using takes)]
  rfl

theorem exec_ticketAnswer (n : VisitNumber) (result : TicketResult) : exec (.ticketAnswer n result) s =
    .next (if s.lane.record.visitRef = some n then (s.took (.ticketAnswer n result)).takeTicketAnswer result
      else s.took (.ticketAnswer n result)) := by
  show execTicketAnswer n result s = _
  rw [execTicketAnswer, State.whenLane_takes _ (by simpa using takes)]
  rfl

theorem exec_lanePrinterState (p : PrinterState) : exec (.lanePrinterState p) s =
    .next (if s.lane.state = .ticketing ∧ (p = .paperOut ∨ p = .fault) then
        (s.took (.lanePrinterState p)).raiseHelp .printer
      else s.took (.lanePrinterState p)) := by
  show execLanePrinterState p s = _
  rw [execLanePrinterState, State.whenLane_takes _ (by simpa using takes)]
  rfl

theorem exec_laneHelpPress : exec .laneHelpPress s = .next ((s.took .laneHelpPress).raiseHelp .helpButton) := by
  show execLaneHelpPress s = _
  rw [execLaneHelpPress, State.whenLane_takes _ (by simpa using takes)]

end

/-! ### The re-claim (R70, R101) -/

/-- A re-claim carries the first number and the whole record. -/
theorem TxnRecord.openFrame_whole {r : TxnRecord} {n : VisitNumber} {c : Claim} (number : r.visitRef = some n)
    (token : r.token = some c.token) (kind : r.kind = some c.kind) (category : r.category = some c.category)
    (rate : r.rate = some c.rate) (capture : r.capture = some (c.weight, c.time)) (tare : r.tare = c.tare)
    (manual : r.manual = c.manual) : r.openFrame = some (.openFrame ⟨n, c⟩) := by
  have whole : r.claim = some c := by simp only [TxnRecord.claim, token, kind, category, rate, capture, tare, manual]
  simp only [TxnRecord.openFrame, number, whole]

theorem State.askReclaim_frame {s : State} {f : LaneFrame} (h : s.lane.record.openFrame = some f) :
    s.askReclaim = { s with
      lane := { s.lane with asked := some .reclaim }, posted := s.posted ++ [.event (.reclaim f)] } := by
  simp only [State.askReclaim, h]
  rfl

/-! ### The ticket unit's answers (R72) -/

/-- The transaction marked as released and ticketed (R72). -/
def State.release (s : State) : State :=
  { s with lane := { s.lane with ticketed := true, record := { s.lane.record with progress := .released } } }

section
variable {s : State} (number : Nat)

theorem State.ticketQueued_eq : s.ticketQueued = if s.lane.state = .ticketing then s.release.depart else s.release := rfl

theorem State.takeQueued_ticketing (h : s.lane.state = .ticketing) :
    s.takeTicketAnswer (.queued number) = s.release.depart := by
  have taken : s.takeTicketAnswer (.queued number) = s.ticketQueued := by simp only [State.takeTicketAnswer, h]
  rw [taken, State.ticketQueued_eq, if_pos h]

theorem State.takeQueued_waited (h : s.lane.state = .assist ∨ s.lane.state = .departing) :
    s.takeTicketAnswer (.queued number) = s.release := by
  have taken : s.takeTicketAnswer (.queued number) = s.ticketQueued := by
    rcases h with h | h <;> simp only [State.takeTicketAnswer, h]
  rw [taken, State.ticketQueued_eq, if_neg (by rcases h with h | h <;> simp [h])]

/-- Log 58: the lane in any other state does not take the answer. -/
theorem State.takeQueued_other (notTicketing : s.lane.state ≠ .ticketing) (notAssist : s.lane.state ≠ .assist)
    (notDeparting : s.lane.state ≠ .departing) : s.takeTicketAnswer (.queued number) = s := by
  unfold State.takeTicketAnswer
  split
  case h_1 state _ => exact absurd state notTicketing
  case h_2 state _ => exact absurd state notAssist
  case h_3 state _ => exact absurd state notDeparting
  case h_4 => cases ‹TicketResult.queued _ = .refused›
  case h_5 => rfl

theorem State.takeRefused_ticketing (h : s.lane.state = .ticketing) :
    s.takeTicketAnswer .refused = s.enterAssist .ticketsExhausted := by
  simp only [State.takeTicketAnswer, h]

theorem State.takeRefused_other (h : s.lane.state ≠ .ticketing) : s.takeTicketAnswer .refused = s := by
  unfold State.takeTicketAnswer
  split
  case h_4 state _ => exact absurd state h
  case h_5 => rfl
  all_goals cases ‹TicketResult.refused = .queued _›

end

/-- Settles O37: each event is one lane operation, made or not by the lane state and the record. -/
theorem removalAndTicketAnswersAtTheLane : Obligations.RemovalAndTicketAnswersAtTheLane := by
  refine ⟨fun s removed n c takes => ⟨?_, fun h => ?_⟩, fun s n k p takes => ?_⟩
  · intro held free number token kind category rate capture tare manual
    rw [exec_removalReport takes, if_pos ⟨held, free⟩]
    exact congrArg Host.Outcome.next (State.askReclaim_frame (s := s.took (.removalReport removed))
      (TxnRecord.openFrame_whole number token kind category rate capture tare manual))
  · rw [exec_removalReport takes, if_neg]
    rintro ⟨held, free⟩
    simp [held, free] at h
  · intro queued refused released
    refine ⟨fun own => ?_, fun foreign => ?_, fun ticketing out => ?_, fun h => ?_, exec_laneHelpPress takes⟩
    · have taken (result : TicketResult) := (exec_ticketAnswer takes n result).trans
        (congrArg Host.Outcome.next (if_pos own))
      refine ⟨fun ticketing => ⟨?_, ?_⟩, fun waited => ?_, fun other => ?_, fun other notAssist notDeparting => ?_⟩
      · exact (taken _).trans (congrArg _ (State.takeQueued_ticketing (s := s.took queued) k ticketing))
      · exact (taken _).trans (congrArg _ (State.takeRefused_ticketing (s := s.took refused) ticketing))
      · exact (taken _).trans (congrArg _ (State.takeQueued_waited (s := s.took queued) k waited))
      · exact (taken _).trans (congrArg _ (State.takeRefused_other (s := s.took refused) other))
      · exact (taken _).trans (congrArg _ (State.takeQueued_other (s := s.took queued) k other notAssist notDeparting))
    · exact ⟨(exec_ticketAnswer takes n _).trans (congrArg _ (if_neg foreign)),
        (exec_ticketAnswer takes n _).trans (congrArg _ (if_neg foreign))⟩
    · rw [exec_lanePrinterState takes, if_pos ⟨ticketing, out⟩]
    · rw [exec_lanePrinterState takes, if_neg]
      rintro ⟨ticketing, out⟩
      rcases h with h | ⟨notPaper, notFault⟩
      · exact h ticketing
      · exact out.elim notPaper notFault

end Sys2Proof.Machine
end

section
/-! PROOFS. The barrier units (chapter 3): what each operation does to a unit and what the lane is told of it, branch by
branch, and the commands, limits, loops and timers that lead to it. -/

namespace Sys2Proof.Machine

/-! ### A unit replaced, and the lane told -/

/-- A unit that enters FAULT (R48). -/
def BarrierUnit.faulted (b : BarrierUnit) (r : FaultReason) : BarrierUnit :=
  { b with state := .fault, travel := none, lowerPending := false, reason := some r }

/-- A unit that begins a travel with the full limit (R43, R46). -/
def BarrierUnit.moving (b : BarrierUnit) (l : BarrierState) (limit : Nat) (pending : Bool) : BarrierUnit :=
  { b with state := l, travel := some limit, lowerPending := pending }

/-- A unit whose arm has arrived (R44, R45). -/
def BarrierUnit.arrived (b : BarrierUnit) (l : BarrierState) : BarrierUnit := { b with state := l, travel := none }

/-- The unit of an end replaced, and the lane told by an event, which it is given after the start report only (R28). -/
def State.tellBarrier (s : State) (e : End) (b : BarrierUnit) (i : Instr) : State :=
  (s.setBarrier e b).gives (if s.deck.reportSent then [.event i] else [])

section
variable (s : State) (e : End) (b c : BarrierUnit) (i j : Instr)

theorem State.tellBarrier_eq : s.tellBarrier e b i = { s.setBarrier e b with
    posted := s.posted ++ (if s.deck.reportSent = true then [.event i] else []) } := by
  cases e <;> rfl

theorem State.setBarrier_postLane : (s.setBarrier e b).postLane i = s.tellBarrier e b i := by
  rw [State.postLane_gives, State.setBarrier_deck]
  rfl

@[simp] theorem State.setBarrier_active (k : Input) : (s.setBarrier e b).active? k = s.active? k := by cases e <;> rfl

@[simp] theorem State.setBarrier_setBarrier : (s.setBarrier e b).setBarrier e c = s.setBarrier e c := by
  cases e <;> rfl

theorem State.setBarrier_barrier : s.setBarrier e (s.barrier e) = s := by cases e <;> rfl

@[simp] theorem State.setBarrier_tellBarrier : (s.setBarrier e b).tellBarrier e c i = s.tellBarrier e c i := by
  cases e <;> rfl

@[simp] theorem State.tellBarrier_barrier : (s.tellBarrier e b i).barrier e = b := by cases e <;> rfl

@[simp] theorem State.tellBarrier_active (k : Input) : (s.tellBarrier e b i).active? k = s.active? k := by
  cases e <;> rfl

@[simp] theorem State.tellBarrier_cfg : (s.tellBarrier e b i).cfg = s.cfg := by cases e <;> rfl

@[simp] theorem State.tellBarrier_setBarrier : (s.tellBarrier e b i).setBarrier e c = s.tellBarrier e c i := by
  cases e <;> rfl

end

/-! ### Entry into FAULT and the limits taken (R44, R45, R47, R48) -/

section
variable {s : State} {e : End}

theorem State.enterFault_standing (r : FaultReason) (h : (s.barrier e).state = .fault) : s.enterFault e r = s :=
  if_pos h

theorem State.enterFault_enters (r : FaultReason) (h : (s.barrier e).state ≠ .fault) :
    s.enterFault e r = s.tellBarrier e ((s.barrier e).faulted r) (.laneBarrierFault e r) := by
  rw [State.enterFault, if_neg h, State.setBarrier_postLane]
  rfl

theorem State.takeDownLimit_standing (h : (s.barrier e).state = .fault) : s.takeDownLimit e = s := if_pos h

theorem State.takeDownLimit_conflict (h : (s.barrier e).state ≠ .fault) (up : s.active? (.upLimit e) = true) :
    s.takeDownLimit e =
      s.tellBarrier e ((s.barrier e).faulted .limitConflict) (.laneBarrierFault e .limitConflict) := by
  rw [State.takeDownLimit, if_neg h, if_pos up, State.enterFault_enters _ h]

theorem State.takeDownLimit_arrives (h : (s.barrier e).state = .falling) (up : s.active? (.upLimit e) = false) :
    s.takeDownLimit e = s.tellBarrier e ((s.barrier e).arrived .down) (.laneBarrierArrival e .down) := by
  rw [State.takeDownLimit, if_neg (by simp [h]), if_neg (by simp [up]), if_pos h, State.setBarrier_postLane]
  rfl

theorem State.takeDownLimit_nothing (h : (s.barrier e).state ≠ .falling) (up : s.active? (.upLimit e) = false) :
    s.takeDownLimit e = s := by
  rw [State.takeDownLimit, if_neg (by simp [up] : ¬ s.active? (.upLimit e) = true), if_neg h, ite_self]

/-! ### A fall begun (R43, R46, R47) -/

theorem State.startFall_falls (down : s.active? (.downLimit e) = false) :
    s.startFall e = s.setBarrier e ((s.barrier e).moving .falling s.cfg.travelLimit false) := by
  rw [State.startFall, if_neg (by simp [down])]
  rfl

theorem State.startFall_taken (down : s.active? (.downLimit e) = true) :
    s.startFall e = (s.setBarrier e ((s.barrier e).moving .falling s.cfg.travelLimit false)).takeDownLimit e := by
  rw [State.startFall, if_pos down]
  rfl

theorem State.startFall_arrives (down : s.active? (.downLimit e) = true) (up : s.active? (.upLimit e) = false) :
    s.startFall e = s.tellBarrier e { (s.barrier e).arrived .down with lowerPending := false }
      (.laneBarrierArrival e .down) := by
  rw [State.startFall_taken down, State.takeDownLimit_arrives (by simp [BarrierUnit.moving]) (by simpa using up),
    State.setBarrier_tellBarrier, State.setBarrier_same]
  rfl

theorem State.startFall_conflict (down : s.active? (.downLimit e) = true) (up : s.active? (.upLimit e) = true) :
    s.startFall e = s.tellBarrier e ((s.barrier e).faulted .limitConflict) (.laneBarrierFault e .limitConflict) := by
  rw [State.startFall_taken down, State.takeDownLimit_conflict (by simp [BarrierUnit.moving]) (by simpa using up),
    State.setBarrier_tellBarrier, State.setBarrier_same]
  rfl

/-! ### The up limit taken (R44, R47) -/

theorem State.takeUpLimit_standing (h : (s.barrier e).state = .fault) : s.takeUpLimit e = s := if_pos h

theorem State.takeUpLimit_conflict (h : (s.barrier e).state ≠ .fault) (down : s.active? (.downLimit e) = true) :
    s.takeUpLimit e =
      s.tellBarrier e ((s.barrier e).faulted .limitConflict) (.laneBarrierFault e .limitConflict) := by
  rw [State.takeUpLimit, if_neg h, if_pos down, State.enterFault_enters _ h]

theorem State.takeUpLimit_nothing (h : (s.barrier e).state ≠ .rising) (down : s.active? (.downLimit e) = false) :
    s.takeUpLimit e = s := by
  rw [State.takeUpLimit, if_neg (by simp [down] : ¬ s.active? (.downLimit e) = true), if_neg h, ite_self]

/-- The arrival at UP, where a LOWER that stands pending is acted on with the loop clear (R44). -/
theorem State.takeUpLimit_rising (h : (s.barrier e).state = .rising) (down : s.active? (.downLimit e) = false) :
    let up := s.tellBarrier e ((s.barrier e).arrived .up) (.laneBarrierArrival e .up)
    s.takeUpLimit e = if (s.barrier e).lowerPending && !s.active? (.safety e) then up.startFall e else up := by
  rw [State.takeUpLimit, if_neg (by simp [h]), if_neg (by simp [down]), if_pos h, State.setBarrier_postLane]
  rfl

theorem State.takeUpLimit_arrives (h : (s.barrier e).state = .rising) (down : s.active? (.downLimit e) = false)
    (stays : (s.barrier e).lowerPending = false ∨ s.active? (.safety e) = true) :
    s.takeUpLimit e = s.tellBarrier e ((s.barrier e).arrived .up) (.laneBarrierArrival e .up) := by
  rw [State.takeUpLimit_rising h down, if_neg]
  rcases stays with stays | stays <;> simp [stays]

theorem State.takeUpLimit_falls (h : (s.barrier e).state = .rising) (down : s.active? (.downLimit e) = false)
    (pending : (s.barrier e).lowerPending = true) (clear : s.active? (.safety e) = false) :
    s.takeUpLimit e = s.tellBarrier e ((s.barrier e).moving .falling s.cfg.travelLimit false)
      (.laneBarrierArrival e .up) := by
  rw [State.takeUpLimit_rising h down, if_pos (by simp [pending, clear]), State.startFall_falls (by simpa using down),
    State.tellBarrier_setBarrier, State.tellBarrier_barrier, State.tellBarrier_cfg]
  rfl

/-! ### A rise begun (R43, R45, R46, R47) -/

variable {pending : Bool}

theorem State.startRise_rises (up : s.active? (.upLimit e) = false) :
    s.startRise e pending = s.setBarrier e ((s.barrier e).moving .rising s.cfg.travelLimit pending) := by
  rw [State.startRise, if_neg (by simp [up])]
  rfl

theorem State.startRise_taken (up : s.active? (.upLimit e) = true) : s.startRise e pending =
    (s.setBarrier e ((s.barrier e).moving .rising s.cfg.travelLimit pending)).takeUpLimit e := by
  rw [State.startRise, if_pos up]
  rfl

theorem State.startRise_arrives (up : s.active? (.upLimit e) = true) (down : s.active? (.downLimit e) = false)
    (stays : pending = false ∨ s.active? (.safety e) = true) :
    s.startRise e pending = s.tellBarrier e { (s.barrier e).arrived .up with lowerPending := pending }
      (.laneBarrierArrival e .up) := by
  rw [State.startRise_taken up, State.takeUpLimit_arrives (by simp [BarrierUnit.moving]) (by simpa using down)
    (by simpa [BarrierUnit.moving] using stays), State.setBarrier_tellBarrier, State.setBarrier_same]
  rfl

theorem State.startRise_falls (up : s.active? (.upLimit e) = true) (down : s.active? (.downLimit e) = false)
    (clear : s.active? (.safety e) = false) :
    s.startRise e true = s.tellBarrier e ((s.barrier e).moving .falling s.cfg.travelLimit false)
      (.laneBarrierArrival e .up) := by
  rw [State.startRise_taken up, State.takeUpLimit_falls (by simp [BarrierUnit.moving]) (by simpa using down)
    (by simp [BarrierUnit.moving]) (by simpa using clear), State.setBarrier_tellBarrier, State.setBarrier_same,
    State.setBarrier_cfg]
  rfl

theorem State.startRise_conflict (up : s.active? (.upLimit e) = true) (down : s.active? (.downLimit e) = true) :
    s.startRise e pending =
      s.tellBarrier e ((s.barrier e).faulted .limitConflict) (.laneBarrierFault e .limitConflict) := by
  rw [State.startRise_taken up, State.takeUpLimit_conflict (by simp [BarrierUnit.moving]) (by simpa using down),
    State.setBarrier_tellBarrier, State.setBarrier_same]
  rfl

/-! ### RAISE and LOWER (R41 to R45) -/

theorem State.raiseBarrier_fault (h : (s.barrier e).state = .fault) : s.raiseBarrier e = (s, false) := by
  simp only [State.raiseBarrier, h]

theorem State.raiseBarrier_rises (h : (s.barrier e).state = .down ∨ (s.barrier e).state = .falling) :
    s.raiseBarrier e = (s.startRise e false, true) := by
  rcases h with h | h <;> simp only [State.raiseBarrier, h]

theorem State.raiseBarrier_matches (h : (s.barrier e).state = .rising ∨ (s.barrier e).state = .up) :
    s.raiseBarrier e = (s.setBarrier e { s.barrier e with lowerPending := false }, true) := by
  rcases h with h | h <;> simp only [State.raiseBarrier, h]

theorem State.lowerBarrier_fault (h : (s.barrier e).state = .fault) : s.lowerBarrier e = (s, false) := by
  simp only [State.lowerBarrier, h]

theorem State.lowerBarrier_matches (h : (s.barrier e).state = .down ∨ (s.barrier e).state = .falling) :
    s.lowerBarrier e = (s, true) := by
  rcases h with h | h <;> simp only [State.lowerBarrier, h]

theorem State.lowerBarrier_waits
    (h : (s.barrier e).state = .rising ∨ (s.barrier e).state = .up ∧ s.active? (.safety e) = true) :
    s.lowerBarrier e = (s.setBarrier e { s.barrier e with lowerPending := true }, true) := by
  rcases h with h | ⟨h, occupied⟩
  · simp only [State.lowerBarrier, h]
  · simp only [State.lowerBarrier, h, occupied, if_true]

theorem State.lowerBarrier_falls (h : (s.barrier e).state = .up) (clear : s.active? (.safety e) = false) :
    s.lowerBarrier e = (s.startFall e, true) := by
  simp only [State.lowerBarrier, h, clear, Bool.false_eq_true, if_false]

end

/-- Settles O19: a command matches the arm's travel, or starts one, which the limits active then end or fault. -/
theorem raiseAndLowerByState : Obligations.RaiseAndLowerByState := by
  intro s e b told conflict
  have conflicts : s.tellBarrier e (b.faulted .limitConflict) (.laneBarrierFault e .limitConflict) = conflict :=
    State.tellBarrier_eq _ _ _ _
  refine ⟨fun fault => ⟨State.raiseBarrier_fault fault, State.lowerBarrier_fault fault⟩, State.raiseBarrier_matches,
    fun low => ?_, fun rising => State.lowerBarrier_waits (.inl rising), fun up => ?_⟩
  · refine ⟨State.lowerBarrier_matches low, fun away => ?_, fun top noBottom => ?_, fun top bottom => ?_⟩
    · rw [State.raiseBarrier_rises low, State.startRise_rises away]
      rfl
    · rw [State.raiseBarrier_rises low, State.startRise_arrives top noBottom (.inl rfl)]
      rfl
    · rw [State.raiseBarrier_rises low, State.startRise_conflict top bottom, conflicts]
  · refine ⟨fun occupied => State.lowerBarrier_waits (.inr ⟨up, occupied⟩), fun clear away => ?_,
      fun clear bottom noTop => ?_, fun clear bottom top => ?_⟩
    · rw [State.lowerBarrier_falls up clear, State.startFall_falls away]
      rfl
    · rw [State.lowerBarrier_falls up clear, State.startFall_arrives bottom noTop]
      rfl
    · rw [State.lowerBarrier_falls up clear, State.startFall_conflict bottom top, conflicts]

/-! ### The barrier units' events (R44 to R48) -/

section
variable {s : State} (e : End) (works : s.barriersWork = true)
include works

theorem exec_upLimitActivation : exec (.upLimitActivation e) s = .next ((s.took (.upLimitActivation e)).takeUpLimit e) := by
  show execUpLimitActivation e s = _
  rw [execUpLimitActivation, State.whenBarriers_work _ (by simpa using works)]

theorem exec_downLimitActivation :
    exec (.downLimitActivation e) s = .next ((s.took (.downLimitActivation e)).takeDownLimit e) := by
  show execDownLimitActivation e s = _
  rw [execDownLimitActivation, State.whenBarriers_work _ (by simpa using works)]

theorem exec_motorFaultActivation :
    exec (.motorFaultActivation e) s = .next ((s.took (.motorFaultActivation e)).enterFault e .motorFault) := by
  show execMotorFaultActivation e s = _
  rw [execMotorFaultActivation, State.whenBarriers_work _ (by simpa using works)]

theorem exec_travelTimerExpiry : exec (.travelTimerExpiry e) s = .next (s.travelExpiry e) := by
  show execTravelTimerExpiry e s = _
  rw [execTravelTimerExpiry, State.whenBarriers_work _ works]

theorem exec_barrierSafetyActivation : exec (.barrierSafetyActivation e) s =
    .next (if (s.barrier e).state = .falling then (s.took (.barrierSafetyActivation e)).startRise e true
      else s.took (.barrierSafetyActivation e)) := by
  show execBarrierSafetyActivation e s = _
  rw [execBarrierSafetyActivation, State.whenBarriers_work _ (by simpa using works), State.takeSafetyActivation,
    State.took_barrier]

theorem exec_barrierSafetyRelease : exec (.barrierSafetyRelease e) s =
    .next (if (s.barrier e).state = .up ∧ (s.barrier e).lowerPending = true ∧ s.active? (.safety e) = false then
        (s.took (.barrierSafetyRelease e)).startFall e
      else s.took (.barrierSafetyRelease e)) := by
  show execBarrierSafetyRelease e s = _
  rw [execBarrierSafetyRelease, State.whenBarriers_work _ (by simpa using works), State.takeSafetyRelease,
    State.took_barrier, State.took_active]

end

/-- Settles O20. -/
theorem limitActivationArrivesOrFaults : Obligations.LimitActivationArrivesOrFaults := by
  intro s e works b put conflict up down
  have told (i : Instr) (c : BarrierUnit) (j : Instr) : (s.took i).tellBarrier e c j = put i c j :=
    State.tellBarrier_eq _ _ _ _
  rw [exec_upLimitActivation e works, exec_downLimitActivation e works]
  generalize Instr.upLimitActivation e = i
  generalize Instr.downLimitActivation e = j
  refine ⟨fun fault => ⟨?_, ?_⟩, fun h bottom => ?_, fun h top => ?_, fun _ h noBottom => ?_, fun _ h noTop => ?_,
    fun rising noBottom stays => ?_, fun rising noBottom pending clear => ?_, fun falling noTop => ?_⟩ <;>
    refine congrArg Host.Outcome.next ?_
  · exact State.takeUpLimit_standing (s := s.took i) fault
  · exact State.takeDownLimit_standing (s := s.took j) fault
  · exact (State.takeUpLimit_conflict (s := s.took i) h bottom).trans (told _ _ _)
  · exact (State.takeDownLimit_conflict (s := s.took j) h top).trans (told _ _ _)
  · exact State.takeUpLimit_nothing (s := s.took i) h noBottom
  · exact State.takeDownLimit_nothing (s := s.took j) h noTop
  · exact (State.takeUpLimit_arrives (s := s.took i) rising noBottom stays).trans (told _ _ _)
  · exact (State.takeUpLimit_falls (s := s.took i) rising noBottom pending clear).trans (told _ _ _)
  · exact (State.takeDownLimit_arrives (s := s.took j) falling noTop).trans (told _ _ _)

/-- Settles O21: the fault entries by `enterFault`, the safety loop's reversal by a rise begun with its LOWER pending, its
release by a fall begun. -/
theorem barrierFaultSafetyLoopAndReleases : Obligations.BarrierFaultSafetyLoopAndReleases := by
  refine ⟨fun s e works => ?_, fun s e works => ?_⟩
  · intro b faulted
    have told (t : State) (sent : t.deck.reportSent = s.deck.reportSent) (r : FaultReason) :
        t.tellBarrier e (b.faulted r) (.laneBarrierFault e r) = faulted t r := by
      rw [State.tellBarrier_eq, sent]
      rfl
    refine ⟨fun h => ?_, fun fault => ?_, fun runs travels => ?_, fun h => ?_, fun _ => rfl, rfl⟩
    · rw [exec_motorFaultActivation e works]
      exact congrArg _ ((State.enterFault_enters (s := s.took _) _ h).trans (told (s.took _) rfl _))
    · rw [exec_motorFaultActivation e works]
      exact congrArg _ (State.enterFault_standing (s := s.took _) _ fault)
    · have h : (s.barrier e).state ≠ .fault := by rcases travels with h | h <;> rw [h] <;> decide
      rw [exec_travelTimerExpiry e works, State.travelExpiry, if_pos ⟨runs, travels⟩, State.enterFault_enters _ h]
      exact congrArg _ (told s rfl _)
    · rw [exec_travelTimerExpiry e works, State.travelExpiry, if_neg]
      rintro ⟨runs, travels⟩
      rcases h with stopped | ⟨notRising, notFalling⟩
      · exact absurd runs (by simp [show (s.barrier e).travel = none from stopped])
      · exact travels.elim notRising notFalling
  · intro b on off told conflict
    have tells (k j : Instr) (c : BarrierUnit) : (s.took k).tellBarrier e c j = told (s.took k) j c :=
      State.tellBarrier_eq _ _ _ _
    have reverses (h : b.state = .falling) : exec on s = .next ((s.took on).startRise e true) :=
      (exec_barrierSafetyActivation e works).trans (congrArg _ (if_pos h))
    have lowers (h : b.state = .up) (pending : b.lowerPending = true) (clear : s.active? (.safety e) = false) :
        exec off s = .next ((s.took off).startFall e) :=
      (exec_barrierSafetyRelease e works).trans (congrArg _ (if_pos ⟨h, pending, clear⟩))
    refine ⟨fun falling noTop => ?_, fun falling top noBottom => ⟨fun occupied => ?_, fun clear => ?_⟩,
      fun falling top bottom => ?_, fun h => ?_, fun up pending clear noBottom => ?_,
      fun up pending clear bottom => ⟨fun noTop => ?_, fun top => ?_⟩, fun h => ?_⟩
    · exact (reverses falling).trans (congrArg _ (State.startRise_rises (s := s.took on) noTop))
    · exact (reverses falling).trans (congrArg _
        ((State.startRise_arrives (s := s.took on) top noBottom (.inr occupied)).trans (tells _ _ _)))
    · exact (reverses falling).trans (congrArg _
        ((State.startRise_falls (s := s.took on) top noBottom clear).trans (tells _ _ _)))
    · exact (reverses falling).trans (congrArg _
        ((State.startRise_conflict (s := s.took on) top bottom).trans (tells _ _ _)))
    · exact (exec_barrierSafetyActivation e works).trans (congrArg _ (if_neg h))
    · exact (lowers up pending clear).trans (congrArg _ (State.startFall_falls (s := s.took off) noBottom))
    · exact (lowers up pending clear).trans (congrArg _
        ((State.startFall_arrives (s := s.took off) bottom noTop).trans (tells _ _ _)))
    · exact (lowers up pending clear).trans (congrArg _
        ((State.startFall_conflict (s := s.took off) bottom top).trans (tells _ _ _)))
    · refine (exec_barrierSafetyRelease e works).trans (congrArg _ (if_neg ?_))
      rintro ⟨up, pending, clear⟩
      rcases h with h | h | h
      · exact h up
      · exact absurd pending (by simp [show (s.barrier e).lowerPending = false from h])
      · exact absurd clear (by simp [h])

end Sys2Proof.Machine
end

section
/-! PROOFS. BARRIER-RESET as the lane passes it on (R49, R80), and the lamps and the drives (R40, R50 to R52, R60). -/

namespace Sys2Proof.Machine

/-! ### Office commands addressed to this station (R80) -/

theorem State.whenTarget_own {s : State} {target : Byte} (f : State → State) (takes : s.laneTakes = true)
    (own : target.toNat = s.own.val) : s.whenTarget target f = f s := by
  rw [State.whenTarget, State.whenLane_takes _ takes, if_pos own]

/-! ### BARRIER-RESET (R49) -/

section
variable {s : State} {e : End}

theorem State.resetBarrier_standing (h : (s.barrier e).state ≠ .fault) : s.resetBarrier e = (s, .refused) := if_pos h

variable (fault : (s.barrier e).state = .fault)
include fault

theorem State.resetBarrier_motor (motor : s.active? (.motorFault e) = true) :
    s.resetBarrier e = (s.setBarrier e { s.barrier e with reason := some .motorFault }, .refused) := by
  rw [State.resetBarrier, if_neg (not_not_intro fault), if_pos motor]

variable (quiet : s.active? (.motorFault e) = false)
include quiet

theorem State.resetBarrier_conflict (top : s.active? (.upLimit e) = true) (bottom : s.active? (.downLimit e) = true) :
    s.resetBarrier e = (s.setBarrier e { s.barrier e with reason := some .limitConflict }, .refused) := by
  simp only [State.resetBarrier, fault, quiet, top, bottom]
  rfl

theorem State.resetBarrier_up (top : s.active? (.upLimit e) = true) (noBottom : s.active? (.downLimit e) = false) :
    s.resetBarrier e = (s.setBarrier e { s.barrier e with state := .up, reason := none }, .done) := by
  simp only [State.resetBarrier, fault, quiet, top, noBottom]
  rfl

theorem State.resetBarrier_down (noTop : s.active? (.upLimit e) = false) (bottom : s.active? (.downLimit e) = true) :
    s.resetBarrier e = (s.setBarrier e { s.barrier e with state := .down, reason := none }, .done) := by
  simp only [State.resetBarrier, fault, quiet, noTop, bottom]
  rfl

theorem State.resetBarrier_rises (noTop : s.active? (.upLimit e) = false) (noBottom : s.active? (.downLimit e) = false) :
    s.resetBarrier e = (s.setBarrier e { s.barrier e with
      state := .rising, reason := none, travel := some s.cfg.travelLimit }, .done) := by
  simp only [State.resetBarrier, fault, quiet, noTop, noBottom]
  rfl

end

theorem exec_barrierReset {s : State} {target : Byte} {argument : List Byte} {e : End} (takes : s.laneTakes = true)
    (own : target.toNat = s.own.val) (theEnd : argumentEnd argument = some e) :
    let t := s.took (.barrierReset target argument)
    exec (.barrierReset target argument) s =
      .next ((t.resetBarrier e).1.reportCommand .barrierReset (t.resetBarrier e).2) := by
  show execBarrierReset target argument s = _
  rw [execBarrierReset, State.whenTarget_own _ (by simpa using takes) (by simpa using own)]
  simp only [theEnd]

theorem State.setBarrier_reportCommand (s : State) (e : End) (b : BarrierUnit) (c : OfficeCommand) (r : CommandResult) :
    (s.setBarrier e b).reportCommand c r =
      State.report { s.setBarrier e b with lane := { s.lane with lastCommand := some ⟨c, r⟩ } } := by
  cases e <;> rfl

/-- Settles O22. -/
theorem barrierResetLeavesFaultByTheLimits : Obligations.BarrierResetLeavesFaultByTheLimits := by
  intro s target argument e takes own theEnd i b answered up down motor
  have answers {c : BarrierUnit} {r : CommandResult} (h : (s.took i).resetBarrier e = ((s.took i).setBarrier e c, r)) :
      exec i s = answered c r := by
    rw [exec_barrierReset takes own theEnd]
    exact (congrArg (fun p : State × CommandResult => Host.Outcome.next (p.1.reportCommand .barrierReset p.2)) h).trans
      (congrArg _ (State.setBarrier_reportCommand _ _ _ _ _))
  refine ⟨fun h => answers ?_, fun fault motor => answers (State.resetBarrier_motor (s := s.took i) fault motor),
    fun fault quiet top bottom => answers (State.resetBarrier_conflict (s := s.took i) fault quiet top bottom),
    fun fault quiet top noBottom => answers (State.resetBarrier_up (s := s.took i) fault quiet top noBottom),
    fun fault quiet noTop bottom => answers (State.resetBarrier_down (s := s.took i) fault quiet noTop bottom),
    fun fault quiet noTop noBottom => answers (State.resetBarrier_rises (s := s.took i) fault quiet noTop noBottom)⟩
  rw [State.resetBarrier_standing (s := s.took i) h]
  exact congrArg (·, CommandResult.refused) ((s.took i).setBarrier_barrier e).symm

/-! ### Lamps and drives (R40, R50 to R52, R60) -/

theorem State.lampsShown_flash {s : State} {e : End} (live : s.live = true)
    (h : (s.barrier e).state = .fault ∨ s.offline = true) : s.lampsShown e = (.flash, .off) := by
  rw [State.lampsShown, if_pos]
  rcases h with h | h <;> simp [h, live]

theorem State.lampsShown_requested {s : State} {e : End} (h : (s.barrier e).state ≠ .fault) (on : s.offline = false) :
    s.lampsShown e = ((s.barrier e).redRequest, (s.barrier e).greenRequest) := by
  rw [State.lampsShown, if_neg]
  simp [h, on]

theorem State.drives_eq {s : State} (e : End) (live : s.live = true) : s.drives e =
    if s.offline then (false, false)
    else (decide ((s.barrier e).state = .rising), decide ((s.barrier e).state = .falling)) := by
  rw [State.drives, live, Bool.not_true, Bool.or_false]
  rfl

/-- The lamp modes of a head, red and green, where one end is given the green (R60). -/
def headModes (green : Option End) (e : End) : LampMode × LampMode := if green = some e then (.off, .on) else (.on, .off)

theorem State.requestHeads_barrier (s : State) (green : Option End) (e : End) : (s.requestHeads green).barrier e =
    { s.barrier e with redRequest := (headModes green e).1, greenRequest := (headModes green e).2 } := by
  cases e <;> rfl

/-- Settles O23. -/
theorem lampsAndDrives : Obligations.LampsAndDrives := by
  refine ⟨fun s e live => ⟨State.lampsShown_flash live, State.lampsShown_requested, fun off => ?_, fun on => ?_⟩,
    fun s live => ?_, fun s green e => ?_⟩
  · rw [State.drives_eq e live, if_pos off]
  · rw [State.drives_eq e live, if_neg (by simp [on])]
  · show execFlashTick s = _
    rw [execFlashTick, State.whenLive_live _ live]
  · rw [State.requestHeads_barrier, headModes]
    split <;> rfl

end Sys2Proof.Machine
end

section
/-! PROOFS. LANE-STATUS and HELP: where they are placed, their bytes, the raise of help, and HELP-ACK (R54 to R56, R88, R152,
R153, R158). -/

namespace Sys2Proof.Machine

/-! ### Placed or counted (R55, R152, R153, R158) -/

section
variable {s : State}

theorem State.placeStatus_placed (orphan : Option VisitNumber) (on : s.offline = false)
    (room : s.link.bulk.frames.length < 16) : s.placeStatus orphan = State.tryStart { s with link := { s.link with
      bulk := { s.link.bulk with frames := s.link.bulk.frames ++ [laneStatusFrame s orphan] } } } := by
  rw [State.placeStatus, State.place_placed (f := laneStatusFrame s orphan) on (.inl (show QueueName.bulk ≠ .routine by decide))
    (decide_eq_true room)]
  rfl

theorem State.placeStatus_counted (orphan : Option VisitNumber) (on : s.offline = false)
    (full : 16 ≤ s.link.bulk.frames.length) : s.placeStatus orphan = { s with link := { s.link with
      statusDiscards := satSucc s.link.statusDiscards } } := by
  rw [State.placeStatus, State.place_full (f := laneStatusFrame s orphan) on (decide_eq_false (Nat.not_lt.2 full))]
  rfl

theorem State.placeStatus_offline (orphan : Option VisitNumber) (off : s.offline = true) : s.placeStatus orphan = s := by
  rw [State.placeStatus, State.place_offline off]
  rfl

theorem State.placeHelp_placed (r : Reason) (on : s.offline = false) (room : s.link.urgent.frames.length < 4) :
    s.placeHelp r = State.tryStart { s with link := { s.link with
      urgent := { s.link.urgent with frames := s.link.urgent.frames ++ [helpFrame s r] } } } := by
  rw [State.placeHelp, State.place_placed (f := helpFrame s r) on (.inl (show QueueName.urgent ≠ .routine by decide))
    (decide_eq_true room)]
  rfl

theorem State.placeHelp_lost (r : Reason) (on : s.offline = false) (full : 4 ≤ s.link.urgent.frames.length) :
    s.placeHelp r = { s with link := { s.link with helpLost := satSucc s.link.helpLost } } := by
  rw [State.placeHelp, State.place_full (f := helpFrame s r) on (decide_eq_false (Nat.not_lt.2 full))]
  rfl

/-! ### The raise of help (R54) -/

/-- The same reason, or a help press, with the status PENDING raises nothing (R54). -/
theorem State.raiseHelp_again {r : Reason} (pending : s.lane.help = .pending)
    (same : r = .helpButton ∨ s.lane.lastHelp = some r) : s.raiseHelp r = s := if_pos ⟨pending, same⟩

theorem State.raiseHelp_raises {r : Reason}
    (h : s.lane.help ≠ .pending ∨ (r ≠ .helpButton ∧ s.lane.lastHelp ≠ some r)) :
    s.raiseHelp r = { s.placeHelp r with
      lane := { (s.placeHelp r).lane with help := .pending, lastHelp := some r } } := by
  refine if_neg ?_
  rintro ⟨pending, same⟩
  rcases h with h | ⟨noPress, other⟩
  · exact h pending
  · exact same.elim noPress other

/-- Help is PENDING after every raise of it (R54). -/
theorem State.raiseHelp_pending (s : State) (r : Reason) : (s.raiseHelp r).lane.help = .pending := by
  by_cases again : s.lane.help = .pending ∧ (r = .helpButton ∨ s.lane.lastHelp = some r)
  · rw [State.raiseHelp_again again.1 again.2]
    exact again.1
  · rw [State.raiseHelp, if_neg again]

end

/-- Settles O24: where the frames go by the room in their queue, and the bytes by the presence of each field. -/
theorem laneStatusAndHelpArePlacedOrCounted : Obligations.LaneStatusAndHelpArePlacedOrCounted := by
  refine ⟨fun s orphan => ⟨State.placeStatus_placed orphan, State.placeStatus_counted orphan,
      State.placeStatus_offline orphan⟩, fun s r on => ?_, fun s orphan => ?_, ?_⟩
  · intro pending frame
    refine ⟨State.raiseHelp_again, fun h room => ?_, fun h full => ?_⟩
    · rw [State.raiseHelp_raises h, State.placeHelp_placed r on room]
      rfl
    · rw [State.raiseHelp_raises h, State.placeHelp_lost r on full]
      rfl
  · intro r flag arm number
    have commanded : (s.lane.lastCommand.map (fun c => c.command.nibble * 16 + c.result.code * 4)).getD 0 =
        match s.lane.lastCommand with
        | none => 0
        | some c => c.command.nibble * 16 + c.result.code * 4 := by
      cases s.lane.lastCommand <;> rfl
    have captured : optBytes 3 (s.lane.record.capture.map (·.1)) = match s.lane.record.capture with
        | none => [0xFF#8, 0xFF#8, 0xFF#8]
        | some (weight, _) => beBytes 3 weight := by
      cases s.lane.record.capture <;> rfl
    have numbered (n : Option VisitNumber) : optVisitNumberBytes n = number n := by cases n <;> rfl
    simp only [laneStatusFrame, laneStatusHead, commanded, captured, numbered]
    rfl
  · decide

/-! ### HELP-ACK (R56) -/

theorem exec_helpAck {s : State} {target : Byte} {argument : List Byte} (takes : s.laneTakes = true)
    (own : target.toNat = s.own.val) :
    let t := s.took (.helpAck target argument)
    exec (.helpAck target argument) s = .next (if s.lane.help = .pending then
      State.report { t with lane := { s.lane with help := .acknowledged, lastCommand := some ⟨.helpAck, .done⟩ } }
      else State.report { t with lane := { s.lane with lastCommand := some ⟨.helpAck, .refused⟩ } }) := by
  show execHelpAck target argument s = _
  rw [execHelpAck, State.whenTarget_own _ (by simpa using takes) (by simpa using own)]
  rfl

/-- Settles O40. -/
theorem helpAckAcknowledgesPendingHelp : Obligations.HelpAckAcknowledgesPendingHelp := by
  intro s target argument takes own i acknowledged
  have status : acknowledged.lane.help = .acknowledged := congrArg Lane.help (State.report_lane _)
  refine ⟨fun pending => ⟨?_, ?_, fun r => ?_⟩, fun h => ?_, s.raiseHelp_pending⟩
  · rw [exec_helpAck takes own, if_pos pending]
  · rw [State.helpLamp, status]
  · exact State.raiseHelp_raises (.inl (by simp [status]))
  · rw [exec_helpAck takes own, if_neg (by rcases h with h | h <;> simp [h])]

end Sys2Proof.Machine
end

section
/-! PROOFS. The outcomes of the lane's open and close, and the entry into TICKETING with the issue (R54, R69, R71, R72,
R76, R84, R123 to R126). -/

namespace Sys2Proof.Machine

/-! ### The issue (R72, R54) -/

/-- TICKETING entered with an issue handed to the ticket unit (R60, R72). -/
def State.ticketed (s : State) (q : IssueRequest) : State := { s.requestHeads none with
  posted := s.posted ++ [.event (.issue q)]
  lane := { s.lane with
    state := .ticketing, sign := .wait, waitActive := false, leg := .rising
    record := { s.lane.record with assist := none } } }

section
variable {s : State} {q : IssueRequest} (asked : s.issueRequest = some q)
include asked

theorem State.startIssue_eq : s.startIssue =
    (if s.tickets.printer = .paperOut ∨ s.tickets.printer = .fault then (s.ticketed q).raiseHelp .printer
      else s.ticketed q).report := by
  simp only [State.startIssue, asked]
  rfl

theorem State.startIssue_printing (h : s.tickets.printer = .absent ∨ s.tickets.printer = .ready) :
    s.startIssue = (s.ticketed q).report := by
  rw [State.startIssue_eq asked, if_neg]
  rcases h with h | h <;> simp [h]

theorem State.startIssue_stopped (h : s.tickets.printer = .paperOut ∨ s.tickets.printer = .fault) :
    s.startIssue = ((s.ticketed q).raiseHelp .printer).report := by
  rw [State.startIssue_eq asked, if_pos h]

end

/-! ### The lane's own outcomes (R69, R71) -/

theorem Lane.ownsClaim_iff (l : Lane) (n : VisitNumber) : l.ownsClaim n = true ↔
    l.state = .claiming ∧ l.record.visitRef = some n ∧ l.record.progress = .claimOut := by
  simp only [Lane.ownsClaim, Bool.and_eq_true, beq_iff_eq, and_assoc]

theorem Lane.ownsClose_iff (l : Lane) (n : VisitNumber) : l.ownsClose n = true ↔
    l.state = .closing ∧ l.record.visitRef = some n ∧ l.record.progress = .closeOut := by
  simp only [Lane.ownsClose, Bool.and_eq_true, beq_iff_eq, and_assoc]

section
variable {s : State} (n : VisitNumber) (takes : s.laneTakes = true)
include takes

theorem exec_claimOutcome (r : ClaimResult) : exec (.claimOutcome n r) s =
    .next (if s.lane.ownsClaim n then (s.took (.claimOutcome n r)).takeClaimOutcome r
      else (s.took (.claimOutcome n r)).takeAbandoned n r) := by
  show execClaimOutcome n r s = _
  rw [execClaimOutcome, State.whenLane_takes _ (by simpa using takes)]
  rfl

theorem exec_closeOutcome (r : CloseResult) : exec (.closeOutcome n r) s =
    .next (if s.lane.ownsClose n then (s.took (.closeOutcome n r)).takeCloseOutcome r
      else s.took (.closeOutcome n r)) := by
  show execCloseOutcome n r s = _
  rw [execCloseOutcome, State.whenLane_takes _ (by simpa using takes)]
  rfl

end

/-! ### With no office command pending (R69, R71, R84) -/

section
variable {s : State} (free : s.lane.record.pendingCommand = none)
include free

theorem State.discardPending_none : s.discardPending = s := by
  simp only [State.discardPending, free]

theorem State.applyPendingOr_none (f : State → State) : s.applyPendingOr f = f s := by
  simp only [State.applyPendingOr, free]

theorem State.applyPendingOr_assist (p : Progress) (r : Reason) :
    ((s.withProgress p).applyPendingOr fun s => s.enterAssist r) = (s.withProgress p).enterAssist r :=
  State.applyPendingOr_none (s := s.withProgress p) free fun s => s.enterAssist r

theorem State.takeAdmitted_free : s.takeClaimOutcome .admitted = s.admitted :=
  congrArg State.admitted (State.discardPending_none free)

theorem State.takeFull_free : s.takeClaimOutcome .full = s.enterHeld := State.applyPendingOr_none free _

theorem State.takeDuplicate_free :
    s.takeClaimOutcome .duplicate = (s.withProgress .none).enterAssist .duplicate :=
  State.applyPendingOr_assist free _ _

theorem State.takeClaimNotDelivered_free :
    s.takeClaimOutcome .notDelivered = (s.withProgress .claimDropped).enterAssist .notDelivered :=
  State.applyPendingOr_assist free _ _

theorem State.takeFound_free : s.takeCloseOutcome .found = s.closeFound :=
  congrArg State.closeFound (State.discardPending_none free)

theorem State.takeAbsent_free : s.takeCloseOutcome .absent = (s.withProgress .none).enterAssist .unmatched :=
  State.applyPendingOr_assist free _ _

theorem State.takeCloseNotDelivered_free :
    s.takeCloseOutcome .notDelivered = (s.withProgress .closeDropped).enterAssist .notDelivered :=
  State.applyPendingOr_assist free _ _

end

section
variable {s : State}

theorem State.admitted_twoPass (h : s.lane.record.kind ≠ some .storedTare) :
    s.admitted = (s.withProgress .released).depart := if_neg h

theorem State.admitted_storedTare (h : s.lane.record.kind = some .storedTare) : s.admitted =
    ((s.withProgress .admitted).withRecord
      ({ s.lane.record with progress := .admitted }.formStoredTare s.retained.cal.interval)).startIssue := if_pos h

theorem State.closeFound_storedTare (h : s.lane.record.kind = some .storedTare) :
    s.closeFound = (s.withProgress .released).depart := if_pos h

theorem State.closeFound_twoPass (h : s.lane.record.kind ≠ some .storedTare) :
    s.closeFound = (s.withProgress .closed).startIssue := if_neg h

end

/-- The net, load direction and charge of a record with its capture, tare and rate (R123, R124, R126). -/
theorem TxnRecord.formStoredTare_whole {r : TxnRecord} {weight tare rate : Nat} {time : Option DepotTime} (d : Nat)
    (captured : r.capture = some (weight, time)) (tared : r.tare = some tare) (rated : r.rate = some rate) :
    r.formStoredTare d = { r with
      net := some (weight - tare), load := some (if tare < weight then .delivery else .nil)
      charge := some ((2 * ((weight - tare) * rate) + 1000) / 2000)
      belowMin := decide (weight - tare < 20 * d), tareOver := decide (weight < tare) } := by
  simp only [TxnRecord.formStoredTare, TxnRecord.captureWeight, captured, tared, rated]
  rfl

theorem State.takeAbandoned_admitted (s : State) (n : VisitNumber) :
    s.takeAbandoned n .admitted = s.countOrphan.placeStatus (some n) := rfl

theorem State.takeAbandoned_other (s : State) (n : VisitNumber) {r : ClaimResult} (h : r ≠ .admitted) :
    s.takeAbandoned n r = s := by
  cases r with
  | admitted => exact absurd rfl h
  | full | duplicate | notDelivered => rfl

/-- Settles O35: the issue is what the record gives, and each outcome is taken as the lane's own or not. -/
theorem outcomesOfTheLanesFramesAreTaken : Obligations.OutcomesOfTheLanesFramesAreTaken := by
  refine ⟨fun s visit token kind rate weight net charge time load ref holdsToken holdsKind rated captured netted loaded
      charged => ?_, fun s n result takes => ?_, fun s n result takes => ?_⟩
  · intro r here entered issued
    have issues {q : IssueRequest} (asked : s.issueRequest = some q) : issued q :=
      ⟨State.startIssue_printing asked, State.startIssue_stopped asked⟩
    refine ⟨fun noCopy category holdsCategory => issues ?_, fun v copied => issues ?_⟩
    · simp only [State.issueRequest, ref, holdsToken, holdsKind, rated, captured, netted, loaded, charged,
        show s.lane.record.visitCopy = none from noCopy, show s.lane.record.category = some category from holdsCategory]
      rfl
    · simp only [State.issueRequest, ref, holdsToken, holdsKind, rated, captured, netted, loaded, charged,
        show s.lane.record.visitCopy = some v from copied]
      rfl
  · intro i progress own
    refine ⟨fun owns free => ?_, fun foreign => ?_⟩
    · have taken : exec i s = .next ((s.took i).takeClaimOutcome result) :=
        (exec_claimOutcome n takes result).trans (congrArg _ (if_pos ((s.lane.ownsClaim_iff n).2 owns)))
      rw [taken]
      refine ⟨fun admitted twoPass => ?_, fun weight time tare rate admitted stored captured tared rated => ?_,
        fun full => ?_, fun duplicate => ?_, fun lost => ?_⟩
      · subst admitted
        exact congrArg _ ((State.takeAdmitted_free (s := s.took i) free).trans (State.admitted_twoPass twoPass))
      · subst admitted
        rw [State.takeAdmitted_free (s := s.took i) free, State.admitted_storedTare (s := s.took i) stored,
          TxnRecord.formStoredTare_whole (r := { (s.took i).lane.record with progress := .admitted }) _ captured tared
            rated]
        rfl
      · subst full
        exact congrArg _ (State.takeFull_free (s := s.took i) free)
      · subst duplicate
        exact congrArg _ (State.takeDuplicate_free (s := s.took i) free)
      · subst lost
        exact congrArg _ (State.takeClaimNotDelivered_free (s := s.took i) free)
    · have taken : exec i s = .next ((s.took i).takeAbandoned n result) :=
        (exec_claimOutcome n takes result).trans (congrArg _ (if_neg (mt (s.lane.ownsClaim_iff n).1 foreign)))
      rw [taken]
      refine ⟨fun admitted => ?_, fun other => congrArg _ (State.takeAbandoned_other _ n other)⟩
      subst admitted
      exact congrArg _ (State.takeAbandoned_admitted _ n)
  · intro i progress own
    refine ⟨fun owns free => ?_, fun foreign => ?_⟩
    · have taken : exec i s = .next ((s.took i).takeCloseOutcome result) :=
        (exec_closeOutcome n takes result).trans (congrArg _ (if_pos ((s.lane.ownsClose_iff n).2 owns)))
      rw [taken]
      refine ⟨fun found stored => ?_, fun found twoPass => ?_, fun absent => ?_, fun lost => ?_⟩
      · subst found
        exact congrArg _ ((State.takeFound_free (s := s.took i) free).trans (State.closeFound_storedTare stored))
      · subst found
        exact congrArg _ ((State.takeFound_free (s := s.took i) free).trans (State.closeFound_twoPass twoPass))
      · subst absent
        exact congrArg _ (State.takeAbsent_free (s := s.took i) free)
      · subst lost
        exact congrArg _ (State.takeCloseNotDelivered_free (s := s.took i) free)
    · exact (exec_closeOutcome n takes result).trans
        (congrArg _ (if_neg (mt (s.lane.ownsClose_iff n).1 foreign)))

end Sys2Proof.Machine
end

section
/-! PROOFS. What the barrier commands and a LANE-STATUS leave of the state, and the lane's waits at a barrier: the boarding
condition, the departure and the way back (R65, R73, R74, R83). -/

namespace Sys2Proof.Machine

/-! ### What RAISE, LOWER, the heads and a LANE-STATUS leave -/

section
variable {s t : State} (h : s.movesBarriers t)
include h

theorem State.movesBarriers.lane : t.lane = s.lane := by
  obtain ⟨a, b, p, rfl, -⟩ := h
  rfl

theorem State.movesBarriers.cfg : t.cfg = s.cfg := by
  obtain ⟨a, b, p, rfl, -⟩ := h
  rfl

theorem State.movesBarriers.deck : t.deck = s.deck := by
  obtain ⟨a, b, p, rfl, -⟩ := h
  rfl

theorem State.movesBarriers.weigh : t.weigh = s.weigh := by
  obtain ⟨a, b, p, rfl, -⟩ := h
  rfl

end

section
variable (s : State) (e : End) (red green : LampMode) (i : Input) (l : Lane)

@[simp] theorem State.raiseBarrier_lane : (s.raiseBarrier e).1.lane = s.lane := (s.raiseBarrier_moves e).lane
@[simp] theorem State.raiseBarrier_cfg : (s.raiseBarrier e).1.cfg = s.cfg := (s.raiseBarrier_moves e).cfg
@[simp] theorem State.raiseBarrier_deck : (s.raiseBarrier e).1.deck = s.deck := (s.raiseBarrier_moves e).deck
@[simp] theorem State.raiseBarrier_active : (s.raiseBarrier e).1.active? i = s.active? i := by
  rw [State.active?, State.raiseBarrier_deck, ← State.active?]
@[simp] theorem State.lowerBarrier_lane : (s.lowerBarrier e).1.lane = s.lane := (s.lowerBarrier_moves e).lane
@[simp] theorem State.lowerBarrier_cfg : (s.lowerBarrier e).1.cfg = s.cfg := (s.lowerBarrier_moves e).cfg
@[simp] theorem State.requestHead_lane : (s.requestHead e red green).lane = s.lane := (s.requestHead_moves e red green).lane
@[simp] theorem State.requestHead_cfg : (s.requestHead e red green).cfg = s.cfg := (s.requestHead_moves e red green).cfg
@[simp] theorem State.requestHead_nearEnd (k : End) : (s.requestHead k red green).nearEnd = s.nearEnd := by
  cases k <;> rfl
@[simp] theorem State.requestHead_farEnd (k : End) : (s.requestHead k red green).farEnd = s.farEnd := by
  cases k <;> rfl
@[simp] theorem State.requestHead_deck : (s.requestHead e red green).deck = s.deck :=
  (s.requestHead_moves e red green).deck

@[simp] theorem State.requestHeads_lane (green : Option End) : (s.requestHeads green).lane = s.lane :=
  (s.requestHeads_moves green).lane
@[simp] theorem State.requestHeads_cfg (green : Option End) : (s.requestHeads green).cfg = s.cfg :=
  (s.requestHeads_moves green).cfg
@[simp] theorem State.requestHeads_deck (green : Option End) : (s.requestHeads green).deck = s.deck :=
  (s.requestHeads_moves green).deck
@[simp] theorem State.requestHeads_active (green : Option End) : (s.requestHeads green).active? i = s.active? i := rfl
@[simp] theorem State.requestHeads_nearEnd (green : Option End) : (s.requestHeads green).nearEnd = s.nearEnd := rfl

@[simp] theorem State.requestHead_barrier : (s.requestHead e red green).barrier e =
    { s.barrier e with redRequest := red, greenRequest := green } := State.setBarrier_same _ _ _

@[simp] theorem State.requestHead_requestHead (red' green' : LampMode) :
    (s.requestHead e red green).requestHead e red' green' = s.requestHead e red' green' := by
  cases e <;> rfl

@[simp] theorem State.requestHead_active : (s.requestHead e red green).active? i = s.active? i :=
  State.setBarrier_active _ _ _ _

/-- Lamps that are set after a fall has begun show whatever was set before it. -/
theorem State.startFall_requestHead (red' green' : LampMode) :
    ((s.requestHead e red green).startFall e).requestHead e red' green' = (s.startFall e).requestHead e red' green' := by
  cases down : s.active? (.downLimit e) with
  | false =>
    rw [State.startFall_falls down, State.startFall_falls (by simpa using down)]
    simp [State.requestHead, BarrierUnit.moving]
  | true =>
    cases up : s.active? (.upLimit e) with
    | false =>
      rw [State.startFall_arrives down up, State.startFall_arrives (by simpa using down) (by simpa using up)]
      simp [State.requestHead, BarrierUnit.arrived]
    | true =>
      rw [State.startFall_conflict down up, State.startFall_conflict (by simpa using down) (by simpa using up)]
      simp [State.requestHead, BarrierUnit.faulted]

/-- Lamps that are set after a LOWER show whatever was set before it. -/
theorem State.lowerBarrier_requestHead (red' green' : LampMode) :
    ((s.requestHead e red green).lowerBarrier e).1.requestHead e red' green' =
      (s.lowerBarrier e).1.requestHead e red' green' := by
  have falls := s.startFall_requestHead e red green red' green'
  simp only [State.lowerBarrier, State.requestHead_barrier, State.requestHead_active]
  cases (s.barrier e).state with
  | fault | down | falling => simp
  | rising => simp [State.requestHead]
  | up =>
    dsimp only
    split
    · simp [State.requestHead]
    · exact falls

/-- The lane's own state replaced. -/
def State.withLane : State := { s with lane := l }

@[simp] theorem State.withLane_lane : (s.withLane l).lane = l := rfl
@[simp] theorem State.withLane_cfg : (s.withLane l).cfg = s.cfg := rfl
@[simp] theorem State.withLane_deck : (s.withLane l).deck = s.deck := rfl
@[simp] theorem State.withLane_active : (s.withLane l).active? i = s.active? i := rfl
@[simp] theorem State.withLane_withLane (k : Lane) : (s.withLane l).withLane k = s.withLane k := rfl
@[simp] theorem State.withLane_self : s.withLane s.lane = s := rfl
@[simp] theorem State.withLane_barrier : (s.withLane l).barrier e = s.barrier e := s.beside_barrier l s.weigh e
@[simp] theorem State.withLane_nearEnd (h : l.record.near = s.lane.record.near) : (s.withLane l).nearEnd = s.nearEnd := by
  rw [State.nearEnd, State.nearEnd, ← h]
  rfl
@[simp] theorem State.withLane_farEnd (h : l.record.near = s.lane.record.near) : (s.withLane l).farEnd = s.farEnd := by
  rw [State.farEnd, s.withLane_nearEnd l h, ← State.farEnd]
@[simp] theorem State.withLane_requestHead :
    (s.withLane l).requestHead e red green = (s.requestHead e red green).withLane l := by
  cases e <;> rfl

/-- A LOWER acts on the barrier whatever the lane holds. -/
@[simp] theorem State.withLane_lowerBarrier :
    ((s.withLane l).lowerBarrier e).1 = (s.lowerBarrier e).1.withLane l := by
  refine (s.beside_lowerBarrier l s.weigh e).trans ?_
  rw [← (s.lowerBarrier_moves e).weigh]
  rfl

@[simp] theorem State.took_nearEnd (j : Instr) : (s.took j).nearEnd = s.nearEnd := rfl
@[simp] theorem State.took_farEnd (j : Instr) : (s.took j).farEnd = s.farEnd := rfl

@[simp] theorem State.lowerBarrier_nearEnd (k : End) : (s.lowerBarrier k).1.nearEnd = s.nearEnd := by
  rw [State.nearEnd, State.lowerBarrier_lane, State.lowerBarrier_cfg, ← State.nearEnd]
@[simp] theorem State.lowerBarrier_farEnd (k : End) : (s.lowerBarrier k).1.farEnd = s.farEnd := by
  rw [State.farEnd, State.lowerBarrier_nearEnd, ← State.farEnd]
@[simp] theorem State.raiseBarrier_nearEnd (k : End) : (s.raiseBarrier k).1.nearEnd = s.nearEnd := by
  rw [State.nearEnd, State.raiseBarrier_lane, State.raiseBarrier_cfg, ← State.nearEnd]
@[simp] theorem State.raiseBarrier_farEnd (k : End) : (s.raiseBarrier k).1.farEnd = s.farEnd := by
  rw [State.farEnd, State.raiseBarrier_nearEnd, ← State.farEnd]

@[simp] theorem State.report_deck : s.report.deck = s.deck := by
  obtain ⟨l, h, -⟩ := s.report_shape
  rw [h]

@[simp] theorem State.report_active : s.report.active? i = s.active? i := by
  obtain ⟨l, h, -⟩ := s.report_shape
  rw [h]
  rfl

@[simp] theorem State.report_nearEnd : s.report.nearEnd = s.nearEnd := by
  obtain ⟨l, h, -⟩ := s.report_shape
  rw [h]
  rfl

@[simp] theorem State.report_farEnd : s.report.farEnd = s.farEnd := congrArg End.other s.report_nearEnd

@[simp] theorem State.report_cfg : s.report.cfg = s.cfg := by
  obtain ⟨l, h, -⟩ := s.report_shape
  rw [h]

@[simp] theorem State.report_barrier : s.report.barrier e = s.barrier e := by
  obtain ⟨l, h, -⟩ := s.report_shape
  rw [h]
  rfl

end

/-! ### The answer of a barrier unit to the lane (R65, R73, R74, R83) -/

/-- What the lane does with a barrier unit's answer: `f` where it is ACCEPTED, ASSIST where it is REFUSED. -/
def ifAccepted (r : State × Bool) (f : State → State) : State := if r.2 then f r.1 else r.1.enterAssist .barrierFault

section
variable {s : State} {e : End} (f : State → State)

theorem ifAccepted_lowers (works : (s.barrier e).state ≠ .fault) :
    ifAccepted (s.lowerBarrier e) f = f (s.lowerBarrier e).1 := if_pos ((s.lowerBarrier_accepted e).2 works)

theorem ifAccepted_lower_refused (fault : (s.barrier e).state = .fault) :
    ifAccepted (s.lowerBarrier e) f = s.enterAssist .barrierFault := by
  rw [State.lowerBarrier_fault fault]
  rfl

theorem ifAccepted_raises (works : (s.barrier e).state ≠ .fault) :
    ifAccepted (s.raiseBarrier e) f = f (s.raiseBarrier e).1 := if_pos ((s.raiseBarrier_accepted e).2 works)

theorem ifAccepted_raise_refused (fault : (s.barrier e).state = .fault) :
    ifAccepted (s.raiseBarrier e) f = s.enterAssist .barrierFault := by
  rw [State.raiseBarrier_fault fault]
  rfl

end

/-! ### The boarding condition (R65) -/

theorem State.boardingHolds_iff (s : State) : s.boardingHolds = true ↔ s.deck.presence = true ∧
    s.active? (.safety s.nearEnd) = false ∧ s.active? (.beam .a) = false ∧ s.active? (.beam .b) = false := by
  simp [State.boardingHolds, State.beamsClear, and_assoc]

section
variable {s : State}

theorem State.boardingTest_fails (h : ¬ s.boardingHolds = true) : s.boardingTest = s := if_neg h

variable (holds : s.boardingHolds = true)
include holds

theorem State.boardingTest_tests : s.boardingTest = ifAccepted (s.lowerBarrier s.nearEnd) fun t =>
    (t.withLane { t.lane with record := { t.lane.record with boarded := true } }).enterWeighing := if_pos holds

theorem State.boardingTest_lowers (works : (s.barrier s.nearEnd).state ≠ .fault) : s.boardingTest =
    ((s.lowerBarrier s.nearEnd).1.withLane
      { s.lane with record := { s.lane.record with boarded := true } }).enterWeighing := by
  rw [State.boardingTest_tests holds, ifAccepted_lowers _ works, State.lowerBarrier_lane]

theorem State.boardingTest_refused (fault : (s.barrier s.nearEnd).state = .fault) :
    s.boardingTest = s.enterAssist .barrierFault := by
  rw [State.boardingTest_tests holds, ifAccepted_lower_refused _ fault]

end

/-! ### The events that test a condition at the deck or a barrier (R65, R74, R83) -/

section
variable {s : State} (takes : s.laneTakes = true)
include takes

theorem exec_lanePresenceChanged (p : Bool) : exec (.lanePresenceChanged p) s =
    .next ((s.took (.lanePresenceChanged p)).presenceChanged p) := by
  show execLanePresenceChanged p s = _
  rw [execLanePresenceChanged, State.whenLane_takes _ (by simpa using takes)]

theorem exec_laneSafetyLoopEvent (e : End) (active : Bool) : exec (.laneSafetyLoopEvent e active) s =
    .next (if active then s.took (.laneSafetyLoopEvent e active)
      else (s.took (.laneSafetyLoopEvent e active)).safetyRelease e) := by
  show execLaneSafetyLoopEvent e active s = _
  rw [execLaneSafetyLoopEvent, State.whenLane_takes _ (by simpa using takes)]

theorem exec_laneBeamEvent (e : End) (active : Bool) : exec (.laneBeamEvent e active) s =
    .next (if !active ∧ s.lane.state = .boarding then (s.took (.laneBeamEvent e active)).boardingTest
      else s.took (.laneBeamEvent e active)) := by
  show execLaneBeamEvent e active s = _
  rw [execLaneBeamEvent, State.whenLane_takes _ (by simpa using takes)]
  rfl

theorem exec_laneBarrierArrival_up (e : End) : exec (.laneBarrierArrival e .up) s =
    .next ((s.took (.laneBarrierArrival e .up)).arrivalUp e) := by
  show execLaneBarrierArrival e .up s = _
  rw [execLaneBarrierArrival, State.whenLane_takes _ (by simpa using takes)]

theorem exec_laneBarrierArrival_down (e : End) : exec (.laneBarrierArrival e .down) s =
    .next ((s.took (.laneBarrierArrival e .down)).arrivalDown e) := by
  show execLaneBarrierArrival e .down s = _
  rw [execLaneBarrierArrival, State.whenLane_takes _ (by simpa using takes)]

theorem exec_laneBarrierFault (e : End) (r : FaultReason) : exec (.laneBarrierFault e r) s =
    .next (if keepsState s.lane.state then (s.took (.laneBarrierFault e r)).report
      else (s.took (.laneBarrierFault e r)).enterAssist .barrierFault) := by
  show execLaneBarrierFault e r s = _
  rw [execLaneBarrierFault, State.whenLane_takes _ (by simpa using takes)]
  rfl

theorem exec_nearApproachRelease (e : End) : exec (.nearApproachRelease e) s =
    .next (if s.lane.state = .reversing ∧ e = s.nearEnd then (s.took (.nearApproachRelease e)).reversingTest
      else s.took (.nearApproachRelease e)) := by
  show execNearApproachRelease e s = _
  rw [execNearApproachRelease, State.whenLane_takes _ (by simpa using takes)]
  rfl

end

/-- What a lane event does in BOARDING where it makes the test of R65. -/
theorem exec_testsBoarding {s : State} (takes : s.laneTakes = true) (boarding : s.lane.state = .boarding) {i : Instr}
    (tests : (∃ p, i = .lanePresenceChanged p) ∨ i = .laneSafetyLoopEvent s.nearEnd false ∨
      (∃ e, i = .laneBeamEvent e false) ∨ i = .laneBarrierArrival s.nearEnd .up) :
    exec i s = .next (s.took i).boardingTest := by
  rcases tests with ⟨p, rfl⟩ | rfl | ⟨e, rfl⟩ | rfl
  · rw [exec_lanePresenceChanged takes]
    simp only [State.presenceChanged, State.took_lane, boarding]
  · rw [exec_laneSafetyLoopEvent takes, if_neg Bool.false_ne_true]
    simp only [State.safetyRelease, State.took_lane, boarding]
    exact congrArg _ (if_pos rfl)
  · rw [exec_laneBeamEvent takes, if_pos ⟨rfl, boarding⟩]
  · rw [exec_laneBarrierArrival_up takes]
    simp only [State.arrivalUp, State.took_lane, boarding]
    exact congrArg _ (if_pos rfl)

/-- Settles O29: each of the four events makes one test, which the condition and the barrier decide. -/
theorem boardingConditionLeadsToWeighing : Obligations.BoardingConditionLeadsToWeighing := by
  intro s takes boarding near holds i tests lowered
  rw [exec_testsBoarding takes boarding tests]
  have held := (s.took i).boardingHolds_iff
  refine ⟨fun h works => ?_, fun h fault => ?_, fun h => ?_⟩
  · exact congrArg _ (State.boardingTest_lowers (held.2 h) (by simpa using works))
  · exact congrArg _ (State.boardingTest_refused (held.2 h) (by simpa using fault))
  · exact congrArg _ (State.boardingTest_fails (mt held.1 h))

end Sys2Proof.Machine
end

section
/-! PROOFS. The way out in DEPARTING and the way back in REVERSING: their barriers raised, the wait for a clear deck, and the
barriers lowered behind the vehicle (R73, R74, R83). -/

namespace Sys2Proof.Machine

/-! ### The clear condition (R74) -/

theorem State.clearHolds_iff (s : State) : s.clearHolds = true ↔
    s.deck.presence = false ∧ s.active? (.safety s.farEnd) = false := by
  simp [State.clearHolds]

/-- The far barrier lowered behind the vehicle: its head red and the sign BLANK (R74). -/
def State.lowersFar (s : State) : State := ((s.lowerBarrier s.farEnd).1.requestHead s.farEnd .on .off).withLane
  { s.lane with sign := .blank, leg := .lowering, clearDeckLimit := none }

section
variable {s : State}

theorem State.clearTest_fails (h : ¬ (s.lane.leg = .clearing ∧ s.clearHolds = true)) : s.clearTest = s := if_neg h

variable (leg : s.lane.leg = .clearing) (holds : s.clearHolds = true)
include leg holds

theorem State.clearTest_tests : s.clearTest =
    ifAccepted ((s.withLane { s.lane with clearDeckLimit := none }).lowerBarrier s.farEnd) fun t =>
      (t.requestHead t.farEnd .on .off).withLane
        { (t.requestHead t.farEnd .on .off).lane with sign := .blank, leg := .lowering } := if_pos ⟨leg, holds⟩

theorem State.clearTest_lowers (works : (s.barrier s.farEnd).state ≠ .fault) : s.clearTest = s.lowersFar := by
  rw [State.clearTest_tests leg holds, ifAccepted_lowers _ (by simpa using works), State.lowersFar]
  simp

theorem State.clearTest_refused (fault : (s.barrier s.farEnd).state = .fault) : s.clearTest =
    (s.withLane { s.lane with clearDeckLimit := none }).enterAssist .barrierFault := by
  rw [State.clearTest_tests leg holds, ifAccepted_lower_refused _ (by simpa using fault)]

end

/-! ### The far barrier stands UP (R74) -/

/-- The lane once the far barrier stands UP, before the clear condition is tested: far green, PROCEED, and the limit. -/
def State.waitsClear (s : State) : State := (s.requestHead s.farEnd .off .on).withLane
  { s.lane with sign := .proceed, leg := .clearing, clearDeckLimit := some s.cfg.clearDeckLimit }

theorem State.farUp_eq (s : State) : s.farUp = s.waitsClear.clearTest := by
  rw [State.waitsClear, ← State.requestHead_lane s s.farEnd .off .on, ← State.requestHead_cfg s s.farEnd .off .on]
  rfl


section
variable {s : State}

theorem State.waitsClear_holds : s.waitsClear.clearHolds = s.clearHolds := by
  simp only [State.clearHolds, State.waitsClear, State.withLane_deck, State.withLane_active, State.withLane_farEnd,
    State.requestHead_deck, State.requestHead_active, State.requestHead_lane, State.requestHead_farEnd]

theorem State.farUp_waits (h : ¬ s.clearHolds = true) : s.farUp = s.waitsClear := by
  rw [State.farUp_eq, State.clearTest_fails]
  rw [State.waitsClear_holds]
  exact fun ⟨_, holds⟩ => h holds

/-- Where the deck is clear the green of step 1 is gone again at once. -/
theorem State.waitsClear_lowersFar : s.waitsClear.lowersFar = s.lowersFar := by
  simp [State.lowersFar, State.waitsClear, State.lowerBarrier_requestHead]

theorem State.farUp_lowers (holds : s.clearHolds = true) (works : (s.barrier s.farEnd).state ≠ .fault) :
    s.farUp = s.lowersFar := by
  have works : (s.waitsClear.barrier s.waitsClear.farEnd).state ≠ .fault := by simpa [State.waitsClear] using works
  rw [State.farUp_eq, State.clearTest_lowers rfl (State.waitsClear_holds.trans holds) works, State.waitsClear_lowersFar]

/-- ASSIST sets heads, sign and timers of its own, whatever step 1 of R74 had set. -/
theorem State.waitsClear_enterAssist (s : State) (r : Reason) :
    (s.waitsClear.withLane { s.waitsClear.lane with clearDeckLimit := none }).enterAssist r =
      (s.withLane { s.lane with clearDeckLimit := none }).enterAssist r := by
  rw [State.enterAssist_eq, State.enterAssist_eq, State.waitsClear]
  cases s.farEnd <;> rfl

theorem State.farUp_refused (holds : s.clearHolds = true) (fault : (s.barrier s.farEnd).state = .fault) :
    s.farUp = (s.withLane { s.lane with clearDeckLimit := none }).enterAssist .barrierFault := by
  have faulted : (s.waitsClear.barrier s.waitsClear.farEnd).state = .fault := by simpa [State.waitsClear] using fault
  rw [State.farUp_eq, State.clearTest_refused rfl (State.waitsClear_holds.trans holds) faulted]
  exact s.waitsClear_enterAssist .barrierFault

end

/-! ### The way back (R83) -/

theorem State.reversingHolds_iff (s : State) : s.reversingHolds = true ↔ s.deck.presence = false ∧
    s.active? (.safety s.nearEnd) = false ∧ s.active? (.approach s.nearEnd) = false := by
  simp [State.reversingHolds, and_assoc]

section
variable {s : State}

theorem State.reversingTest_fails (h : ¬ (s.lane.leg = .clearing ∧ s.reversingHolds = true)) : s.reversingTest = s :=
  if_neg h

section
variable (leg : s.lane.leg = .clearing) (holds : s.reversingHolds = true)
include leg holds

theorem State.reversingTest_tests : s.reversingTest =
    ifAccepted (s.lowerBarrier s.nearEnd) fun t => t.withLane { t.lane with leg := .lowering } := if_pos ⟨leg, holds⟩

theorem State.reversingTest_lowers (works : (s.barrier s.nearEnd).state ≠ .fault) :
    s.reversingTest = (s.lowerBarrier s.nearEnd).1.withLane { s.lane with leg := .lowering } := by
  rw [State.reversingTest_tests leg holds, ifAccepted_lowers _ works, State.lowerBarrier_lane]

theorem State.reversingTest_refused (fault : (s.barrier s.nearEnd).state = .fault) :
    s.reversingTest = s.enterAssist .barrierFault := by
  rw [State.reversingTest_tests leg holds, ifAccepted_lower_refused _ fault]

end

theorem State.nearUp_eq : s.nearUp = (s.withLane { s.lane with leg := .clearing }).reversingTest := rfl

theorem State.nearUp_waits (h : ¬ s.reversingHolds = true) : s.nearUp = s.withLane { s.lane with leg := .clearing } :=
  State.reversingTest_fails (s := s.withLane { s.lane with leg := .clearing }) fun ⟨_, holds⟩ => h holds

theorem State.nearUp_lowers (holds : s.reversingHolds = true) (works : (s.barrier s.nearEnd).state ≠ .fault) :
    s.nearUp = (s.lowerBarrier s.nearEnd).1.withLane { s.lane with leg := .lowering } := by
  rw [State.nearUp_eq, State.reversingTest_lowers (s := s.withLane { s.lane with leg := .clearing }) rfl holds
    (by simpa using works)]
  simp

end

/-! ### The departure (R73) -/

/-- DEPARTING entered with the far barrier raised (R60, R73). -/
def State.startsOut (s : State) : State := (((s.raiseBarrier s.farEnd).1.requestHead s.farEnd .on .off).withLane
  { s.lane with
    state := .departing, sign := if s.lane.ticketed then .takeTicket else .wait, leg := .rising, waitActive := false
    record := { s.lane.record with assist := none } }).report

section
variable {s : State}

theorem State.startsOut_eq : (s.raiseBarrier s.farEnd).1.enterDeparting = s.startsOut := by
  have sameEnd := s.raiseBarrier_farEnd s.farEnd
  have sameLane := s.raiseBarrier_lane s.farEnd
  simp only [State.enterDeparting, State.startsOut, State.showSign, State.requestHead_lane, sameEnd, sameLane]
  rfl

theorem State.depart_raises : s.depart = ifAccepted (s.raiseBarrier s.farEnd) fun t =>
    if (s.barrier s.farEnd).state = .up then t.enterDeparting.farUp else t.enterDeparting := rfl

theorem State.depart_refused (fault : (s.barrier s.farEnd).state = .fault) : s.depart = s.enterAssist .barrierFault := by
  rw [State.depart_raises, ifAccepted_raise_refused _ fault]

theorem State.depart_starts (works : (s.barrier s.farEnd).state ≠ .fault) (below : (s.barrier s.farEnd).state ≠ .up) :
    s.depart = s.startsOut := by
  rw [State.depart_raises, ifAccepted_raises _ works, if_neg below, State.startsOut_eq]

theorem State.depart_up (up : (s.barrier s.farEnd).state = .up) : s.depart = s.startsOut.farUp := by
  rw [State.depart_raises, ifAccepted_raises _ (by simp [up]), if_pos up, State.startsOut_eq]

/-- A RAISE leaves an arm that stands UP where it is (R44), and so able to take a LOWER. -/
theorem State.raiseBarrier_up {e : End} (up : (s.barrier e).state = .up) :
    ((s.raiseBarrier e).1.barrier e).state ≠ .fault := by
  rw [State.raiseBarrier_matches (.inr up)]
  simp [up]

theorem State.startsOut_barrier : s.startsOut.barrier s.farEnd =
    { (s.raiseBarrier s.farEnd).1.barrier s.farEnd with redRequest := .on, greenRequest := .off } := by
  simp [State.startsOut]

@[simp] theorem State.startsOut_cfg : s.startsOut.cfg = s.cfg := by simp [State.startsOut]

@[simp] theorem State.startsOut_farEnd : s.startsOut.farEnd = s.farEnd := by simp [State.startsOut]

@[simp] theorem State.startsOut_clearHolds : s.startsOut.clearHolds = s.clearHolds := by
  simp [State.clearHolds, State.startsOut]

end

/-! ### BACK (R83) -/

/-- A lane that waits for nothing: its frame withdrawn with the requests for it (log 19), the capture request closed and
the timers stopped (R82, R83). -/
def State.waitsForNothing (s : State) : State :=
  { s with
    weigh := { s.weigh with captureRequest := false }
    posted := if s.lane.asked.isSome = true then
        s.posted.filter (fun p => !isFrameRequest p) ++ [.event .frameWithdraw]
      else s.posted
    lane := { s.lane with asked := none, idWait := none, stabilityLimit := none, clearDeckLimit := none } }

section
variable {s : State}

theorem State.withdraw_nothing (h : s.lane.asked = none) : s.withdraw = s := if_neg (by simp [h])

theorem State.withdraw_waiting (h : s.lane.asked.isSome = true) : s.withdraw = { s with
    posted := s.posted.filter (fun p => !isFrameRequest p) ++ [.event .frameWithdraw]
    lane := { s.lane with asked := none } } := if_pos h

end

theorem State.withdraw_eq (s : State) : s.withdraw = { s with
    posted := if s.lane.asked.isSome = true then
        s.posted.filter (fun p => !isFrameRequest p) ++ [.event .frameWithdraw]
      else s.posted
    lane := { s.lane with asked := none } } := by
  by_cases waits : s.lane.asked.isSome = true
  · rw [State.withdraw_waiting waits, if_pos waits]
  · have nothing : s.lane.asked = none := by simpa using waits
    rw [State.withdraw_nothing nothing, if_neg waits, ← nothing]

theorem State.withdraw_stops (s : State) : s.withdraw.closeCapture.stopLaneTimers = s.waitsForNothing := by
  rw [State.withdraw_eq]
  rfl

/-- REVERSING entered with the near barrier raised, with this orphan count (R60, R83). -/
def State.reverses (s : State) (orphans : Nat) : State :=
  ((s.raiseBarrier s.nearEnd).1.requestHeads (some s.nearEnd)).withLane { s.lane with
    state := .reversing, sign := .reverse, leg := .rising, waitActive := false, orphans := orphans
    record := { s.lane.record with assist := none } }

/-- The entry into REVERSING, an orphan admission counted where the visit stays on site (R83; log 20). -/
def State.turnsBack (s : State) : State :=
  if s.lane.record.leavesVisit then (s.reverses (satSucc s.lane.orphans)).placeStatus s.lane.record.visitRef
  else (s.reverses s.lane.orphans).report

section
variable {s : State}

theorem State.turnsBack_eq : (s.raiseBarrier s.nearEnd).1.enterReversing = s.turnsBack := by
  have sameEnd := s.raiseBarrier_nearEnd s.nearEnd
  have sameLane := s.raiseBarrier_lane s.nearEnd
  simp only [State.enterReversing, State.turnsBack, State.reverses, State.setState, State.countOrphan, sameEnd, sameLane,
    State.requestHeads_lane]
  rfl

theorem State.turnsBack_shape : ∃ l n, s.turnsBack = { s.reverses n with link := l } := by
  unfold State.turnsBack
  split
  · obtain ⟨l, h, -⟩ := (s.reverses (satSucc s.lane.orphans)).placeStatus_shape s.lane.record.visitRef
    exact ⟨l, _, h⟩
  · obtain ⟨l, h, -⟩ := (s.reverses s.lane.orphans).report_shape
    exact ⟨l, _, h⟩

@[simp] theorem State.turnsBack_nearEnd : s.turnsBack.nearEnd = s.nearEnd := by
  obtain ⟨l, n, h⟩ := s.turnsBack_shape
  rw [h]
  show (s.reverses n).nearEnd = s.nearEnd
  simp [State.reverses]

theorem State.turnsBack_reversingHolds : s.turnsBack.reversingHolds = s.reversingHolds := by
  obtain ⟨l, n, h⟩ := s.turnsBack_shape
  rw [h]
  show (s.reverses n).reversingHolds = s.reversingHolds
  simp [State.reversingHolds, State.reverses]

theorem State.turnsBack_barrier : (s.turnsBack.barrier s.nearEnd).state =
    ((s.raiseBarrier s.nearEnd).1.barrier s.nearEnd).state := by
  obtain ⟨l, n, h⟩ := s.turnsBack_shape
  rw [h]
  show ((s.reverses n).barrier s.nearEnd).state = _
  simp [State.reverses, State.requestHeads_barrier]

theorem State.applyBack_raises (s : State) : let t := s.waitsForNothing
    s.applyBack = ifAccepted (t.raiseBarrier t.nearEnd) fun u =>
      if (t.barrier t.nearEnd).state = .up then u.enterReversing.nearUp else u.enterReversing := by
  rw [State.applyBack, State.withdraw_stops]
  rfl

theorem State.applyBack_refused (fault : (s.barrier s.nearEnd).state = .fault) :
    s.applyBack = s.waitsForNothing.enterAssist .barrierFault := by
  rw [State.applyBack_raises, ifAccepted_raise_refused]
  exact fault

theorem State.applyBack_starts (works : (s.barrier s.nearEnd).state ≠ .fault)
    (below : (s.barrier s.nearEnd).state ≠ .up) : s.applyBack = s.waitsForNothing.turnsBack := by
  rw [State.applyBack_raises, ifAccepted_raises, if_neg, State.turnsBack_eq]
  · exact below
  · exact works

theorem State.applyBack_up (up : (s.barrier s.nearEnd).state = .up) :
    s.applyBack = s.waitsForNothing.turnsBack.nearUp := by
  rw [State.applyBack_raises, ifAccepted_raises, if_pos, State.turnsBack_eq]
  · exact up
  · exact fun fault => absurd (up.symm.trans fault) (by decide)

theorem TxnRecord.leavesVisit_iff (r : TxnRecord) : r.leavesVisit = true ↔
    r.direction = some .inbound ∧ (r.progress = .admitted ∨ r.progress = .released) := by
  simp [TxnRecord.leavesVisit]

end

/-- Settles O26: the barrier's state decides between a refusal, a wait for the arm, and the test made at once. -/
theorem departureAndBackRaiseTheirBarrier : Obligations.DepartureAndBackRaiseTheirBarrier := by
  refine ⟨fun s => ?_, fun s => ?_⟩
  · intro far raised departing shown
    have held : s.startsOut.clearHolds = true ↔ s.deck.presence = false ∧ s.active? (.safety far) = false := by
      rw [State.startsOut_clearHolds, State.clearHolds_iff]
    refine ⟨State.depart_refused, State.depart_starts, fun up blocked => ?_, fun up noPresence clear => ?_⟩
    · have waits : ¬ s.startsOut.clearHolds = true := fun h => by
        obtain ⟨noPresence, clear⟩ := held.1 h
        rcases blocked with blocked | blocked <;> simp_all
      rw [State.depart_up up, State.farUp_waits waits, State.waitsClear, State.startsOut_farEnd, State.startsOut_cfg]
      rfl
    · have works : (s.startsOut.barrier s.startsOut.farEnd).state ≠ .fault := by
        rw [State.startsOut_farEnd, State.startsOut_barrier]
        exact State.raiseBarrier_up up
      have lowered := s.startsOut.lowerBarrier_requestHead far .off .on .on .off
      rw [State.depart_up up, State.farUp_lowers (held.2 ⟨noPresence, clear⟩) works, State.lowersFar,
        State.startsOut_farEnd, ← lowered]
      rfl
  · intro near stopped raised leaves reversing entered clear
    have enters : entered = s.waitsForNothing.turnsBack :=
      if_congr s.lane.record.leavesVisit_iff.symm rfl rfl
    have held : s.waitsForNothing.turnsBack.reversingHolds = true ↔ clear := by
      rw [State.turnsBack_reversingHolds]
      exact s.reversingHolds_iff
    refine ⟨State.applyBack_refused, fun works below => (State.applyBack_starts works below).trans enters.symm,
      fun up waits => ?_, fun up holds => ?_⟩
    · rw [State.applyBack_up up, State.nearUp_waits (mt held.1 waits), ← enters]
      rfl
    · have works : (s.waitsForNothing.turnsBack.barrier s.waitsForNothing.turnsBack.nearEnd).state ≠ .fault := by
        rw [State.turnsBack_nearEnd, State.turnsBack_barrier]
        exact State.raiseBarrier_up (s := s.waitsForNothing) up
      rw [State.applyBack_up up, State.nearUp_lowers (held.2 holds) works, State.turnsBack_nearEnd, ← enters]
      rfl

/-! ### Which events take the way out and the way back on (R74, R83) -/

section
variable {s : State} {i : Instr} (takes : s.laneTakes = true)
include takes

/-- What a lane event does in DEPARTING where it makes the clear test of R74. -/
theorem exec_testsClear (departing : s.lane.state = .departing)
    (tests : i = .lanePresenceChanged false ∨ i = .laneSafetyLoopEvent s.farEnd false) :
    exec i s = .next (s.took i).clearTest := by
  rcases tests with rfl | rfl
  · rw [exec_lanePresenceChanged takes]
    simp only [State.presenceChanged, State.took_lane, departing]
  · rw [exec_laneSafetyLoopEvent takes, if_neg Bool.false_ne_true]
    simp only [State.safetyRelease, State.took_lane, departing]
    exact congrArg _ (if_pos rfl)

/-- What a lane event does in REVERSING where it makes the test of R83. -/
theorem exec_testsReversing (reversing : s.lane.state = .reversing)
    (tests : i = .lanePresenceChanged false ∨ i = .laneSafetyLoopEvent s.nearEnd false ∨
      i = .nearApproachRelease s.nearEnd) :
    exec i s = .next (s.took i).reversingTest := by
  rcases tests with rfl | rfl | rfl
  · rw [exec_lanePresenceChanged takes]
    simp only [State.presenceChanged, State.took_lane, reversing]
  · rw [exec_laneSafetyLoopEvent takes, if_neg Bool.false_ne_true]
    simp only [State.safetyRelease, State.took_lane, reversing]
    exact congrArg _ (if_pos rfl)
  · rw [exec_nearApproachRelease takes, if_pos ⟨reversing, rfl⟩]

theorem exec_farArrivesUp (departing : s.lane.state = .departing) (leg : s.lane.leg = .rising) :
    exec (.laneBarrierArrival s.farEnd .up) s = .next (s.took (.laneBarrierArrival s.farEnd .up)).farUp := by
  rw [exec_laneBarrierArrival_up takes]
  simp only [State.arrivalUp, State.took_lane, departing]
  exact congrArg _ (if_pos ⟨rfl, leg⟩)

theorem exec_nearArrivesUp (reversing : s.lane.state = .reversing) (leg : s.lane.leg = .rising) :
    exec (.laneBarrierArrival s.nearEnd .up) s = .next (s.took (.laneBarrierArrival s.nearEnd .up)).nearUp := by
  rw [exec_laneBarrierArrival_up takes]
  simp only [State.arrivalUp, State.took_lane, reversing]
  exact congrArg _ (if_pos ⟨rfl, leg⟩)

theorem exec_arrivesDown {e : End} (leg : s.lane.leg = .lowering)
    (waits : s.lane.state = .departing ∧ e = s.farEnd ∨ s.lane.state = .reversing ∧ e = s.nearEnd) :
    exec (.laneBarrierArrival e .down) s = .next (s.took (.laneBarrierArrival e .down)).enterIdle := by
  rw [exec_laneBarrierArrival_down takes]
  rcases waits with ⟨state, rfl⟩ | ⟨state, rfl⟩ <;> simp only [State.arrivalDown, State.took_lane, state] <;>
    exact congrArg _ (if_pos ⟨rfl, leg⟩)

theorem exec_clearDeckLimitExpiry : exec .clearDeckLimitExpiry s =
    .next (if s.lane.clearDeckLimit.isSome ∧ s.lane.state = .departing then
      (s.withLane { s.lane with clearDeckLimit := none }).raiseHelp .clearDeck else s) := by
  show execClearDeckLimitExpiry s = _
  rw [execClearDeckLimitExpiry, State.whenLane_takes _ takes]
  rfl

end

/-- Settles O31: each leg is left by one test, which the condition and the barrier decide. -/
theorem departingAndReversingEndInIdle : Obligations.DepartingAndReversingEndInIdle := by
  refine ⟨fun s takes departing => ?_, fun s takes reversing => ?_⟩
  · intro far clear lowering refused
    have held (i : Instr) := (s.took i).clearHolds_iff
    refine ⟨fun leg h => ?_, fun leg h => ⟨fun works => ?_, fun fault => ?_⟩, fun leg h i tests => ?_,
      fun leg h fault i tests => ?_, fun leg h works i tests => ?_, fun leg => ?_, fun runs => ?_⟩
    · exact (exec_farArrivesUp takes departing leg).trans (congrArg _ (State.farUp_waits (mt (held _).1 h)))
    · exact (exec_farArrivesUp takes departing leg).trans
        (congrArg _ (State.farUp_lowers ((held _).2 h) (by simpa using works)))
    · exact (exec_farArrivesUp takes departing leg).trans
        (congrArg _ (State.farUp_refused ((held _).2 h) (by simpa using fault)))
    · exact (exec_testsClear takes departing tests).trans
        (congrArg _ (State.clearTest_fails fun ⟨_, holds⟩ => h ((held _).1 holds)))
    · exact (exec_testsClear takes departing tests).trans
        (congrArg _ (State.clearTest_refused leg ((held _).2 h) (by simpa using fault)))
    · exact (exec_testsClear takes departing tests).trans
        (congrArg _ (State.clearTest_lowers leg ((held _).2 h) (by simpa using works)))
    · exact exec_arrivesDown takes leg (.inl ⟨departing, rfl⟩)
    · exact (exec_clearDeckLimitExpiry takes).trans (congrArg _ (if_pos ⟨runs, departing⟩))
  · intro near clear lowering
    have held (i : Instr) := (s.took i).reversingHolds_iff
    refine ⟨fun leg => ⟨fun h => ?_, fun h works => ?_⟩, fun leg i tests => ⟨fun h works => ?_, fun h fault => ?_,
      fun h => ?_⟩, fun leg => exec_arrivesDown takes leg (.inr ⟨reversing, rfl⟩)⟩
    · exact (exec_nearArrivesUp takes reversing leg).trans (congrArg _ (State.nearUp_waits (mt (held _).1 h)))
    · exact (exec_nearArrivesUp takes reversing leg).trans
        (congrArg _ (State.nearUp_lowers ((held _).2 h) (by simpa using works)))
    · exact (exec_testsReversing takes reversing tests).trans
        (congrArg _ (State.reversingTest_lowers leg ((held _).2 h) (by simpa using works)))
    · exact (exec_testsReversing takes reversing tests).trans
        (congrArg _ (State.reversingTest_refused leg ((held _).2 h) (by simpa using fault)))
    · exact (exec_testsReversing takes reversing tests).trans
        (congrArg _ (State.reversingTest_fails fun ⟨_, holds⟩ => h ((held _).1 holds)))

end Sys2Proof.Machine
end

section
/-! PROOFS. The lane's other events: presence lost, barrier faults and the events not waited on (R75, R77, R86), the start
report and the approach (R61, R63), and the tokens (R64, R81). -/

namespace Sys2Proof.Machine

/-! ### Presence (R75, R86) -/

section
variable {s : State}

theorem State.presenceChanged_abandons
    (h : s.lane.state = .weighing ∨ s.lane.state = .claiming ∨ s.lane.state = .held) :
    s.presenceChanged false = s.withdraw.enterIdle := by
  rcases h with h | h | h <;> simp only [State.presenceChanged, h] <;> rfl

theorem State.presenceChanged_unblocks (h : s.lane.state = .deckBlocked) : s.presenceChanged false = s.enterIdle := by
  simp only [State.presenceChanged, h]
  rfl

theorem State.presenceChanged_stays (p : Bool) (h : s.lane.state = .idle ∨ s.lane.state = .approach ∨
    s.lane.state = .closing ∨ s.lane.state = .ticketing ∨ s.lane.state = .assist) : s.presenceChanged p = s := by
  rcases h with h | h | h | h | h <;> simp only [State.presenceChanged, h]

/-- Presence found again takes no step where the lane waits for no clear deck (R65, R74, R83). -/
theorem State.presenceChanged_true (notBoarding : s.lane.state ≠ .boarding) (notDeparting : s.lane.state ≠ .departing)
    (notReversing : s.lane.state ≠ .reversing) : s.presenceChanged true = s := by
  unfold State.presenceChanged
  split
  case h_1 state => exact absurd state notBoarding
  case h_5 state => exact absurd state notDeparting
  case h_6 state => exact absurd state notReversing
  all_goals rfl

/-- With presence true neither the clear condition nor the reversing condition holds. -/
theorem State.presenceChanged_occupied (h : s.lane.state = .departing ∨ s.lane.state = .reversing)
    (present : s.deck.presence = true) : s.presenceChanged true = s := by
  rcases h with h | h <;> simp only [State.presenceChanged, h]
  · exact State.clearTest_fails (by simp [State.clearHolds, present])
  · exact State.reversingTest_fails (by simp [State.reversingHolds, present])

end

/-! ### Arrivals and faults (R65, R74, R77, R83) -/

section
variable {s : State} {e : End}

theorem State.arrivalUp_unawaited (h : ¬ ((s.lane.state = .boarding ∧ e = s.nearEnd) ∨
    (s.lane.state = .departing ∧ e = s.farEnd ∧ s.lane.leg = .rising) ∨
    (s.lane.state = .reversing ∧ e = s.nearEnd ∧ s.lane.leg = .rising))) : s.arrivalUp e = s := by
  unfold State.arrivalUp
  split
  case h_1 state => exact if_neg fun near => h (.inl ⟨state, near⟩)
  case h_2 state => exact if_neg fun far => h (.inr (.inl ⟨state, far⟩))
  case h_3 state => exact if_neg fun near => h (.inr (.inr ⟨state, near⟩))
  case h_4 => rfl

theorem State.arrivalDown_unawaited (h : ¬ (s.lane.leg = .lowering ∧
    ((s.lane.state = .departing ∧ e = s.farEnd) ∨ (s.lane.state = .reversing ∧ e = s.nearEnd)))) :
    s.arrivalDown e = s := by
  unfold State.arrivalDown
  split
  case h_1 state => exact if_neg fun ⟨far, leg⟩ => h ⟨leg, .inl ⟨state, far⟩⟩
  case h_2 state => exact if_neg fun ⟨near, leg⟩ => h ⟨leg, .inr ⟨state, near⟩⟩
  case h_3 => rfl

end

theorem keepsState_iff (l : LaneState) :
    keepsState l = true ↔ l = .idle ∨ l = .deckBlocked ∨ l = .claiming ∨ l = .closing := by
  cases l <;> decide

/-- Settles O30: what each event does is read off the lane state. -/
theorem presenceLostAndBarrierFaultAtTheLane : Obligations.PresenceLostAndBarrierFaultAtTheLane := by
  refine ⟨fun s takes => ?_, fun s e takes => ?_, fun s e r takes => ?_⟩
  · intro i withdrawn
    have changed {p : Bool} {t : State} (h : (s.took (.lanePresenceChanged p)).presenceChanged p = t) :
        exec (.lanePresenceChanged p) s = .next t := (exec_lanePresenceChanged takes p).trans (congrArg _ h)
    refine ⟨fun h => ⟨fun nothing => changed ?_, fun waits => changed ?_⟩,
      fun h => changed (State.presenceChanged_unblocks (s := s.took i) h),
      fun h => changed (State.presenceChanged_stays (s := s.took i) false h),
      fun a b c => changed (State.presenceChanged_true (s := s.took _) a b c),
      fun h present => changed (State.presenceChanged_occupied (s := s.took _) h present)⟩
    · rw [State.presenceChanged_abandons (s := s.took i) h, State.withdraw_nothing (s := s.took i) nothing]
    · rw [State.presenceChanged_abandons (s := s.took i) h, State.withdraw_waiting (s := s.took i) waits]
      rfl
  · intro up down waitsUp waitsDown
    exact ⟨fun h => (exec_laneBarrierArrival_up takes e).trans
        (congrArg _ (State.arrivalUp_unawaited (s := s.took up) h)),
      fun h => (exec_laneBarrierArrival_down takes e).trans
        (congrArg _ (State.arrivalDown_unawaited (s := s.took down) h))⟩
  · intro i
    have keeps := keepsState_iff s.lane.state
    refine ⟨fun h => ?_, fun a b c d => ?_, exec_laneSafetyLoopEvent takes e true, ?_, fun h => ?_⟩
    · rw [exec_laneBarrierFault takes, if_pos (keeps.2 h)]
    · rw [exec_laneBarrierFault takes, if_neg]
      rw [keeps]
      rintro (h | h | h | h)
      · exact a h
      · exact b h
      · exact c h
      · exact d h
    · rw [exec_laneBeamEvent takes, if_neg (by simp)]
    · rw [exec_nearApproachRelease takes, if_neg fun reverses => h reverses.1]

/-! ### The start report and the approach (R61, R63, R86) -/

theorem State.movesLane.cal {s t : State} (h : s.movesLane t) : t.cal = s.cal := by
  obtain ⟨c, rfl, -⟩ := h
  rfl

section
variable {s : State}

/-- With no service request in hand there is no hold to put to the lane again (R177). -/
theorem State.postHeldRequest_none (h : s.cal.inHand = none) : s.postHeldRequest = s := by
  rw [State.postHeldRequest, h]
  rfl

theorem State.enterDeckBlocked_eq : let lowered := ((s.lowerBarrier .a).1.lowerBarrier .b).1
    s.enterDeckBlocked = ((State.raiseHelp ((lowered.requestHeads none).withLane { s.lane with
      state := .deckBlocked, sign := .seeOffice, waitActive := false, leg := .rising
      record := { s.lane.record with assist := none } }) .deckBlocked).report) := by
  intro lowered
  have sameLane : lowered.lane = s.lane := by simp [lowered]
  rw [State.enterDeckBlocked, ← sameLane]
  rfl

theorem exec_laneStartReport {presence armed : Bool} {inputs : Vector Bool 14} (live : s.live = true)
    (first : s.lane.reported = false) : exec (.laneStartReport presence inputs armed) s =
      .next ((s.took (.laneStartReport presence inputs armed)).takeStartReport presence) := by
  show execLaneStartReport presence inputs armed s = _
  rw [execLaneStartReport, State.whenLive_live _ (by simpa using live), if_neg (by simp [first])]

theorem State.takeStartReport_offline (presence : Bool) (off : s.offline = true) :
    s.takeStartReport presence = s.withLane { s.lane with reported := true } := if_pos off

theorem State.takeStartReport_reports (presence : Bool) (on : s.offline = false) (nothing : s.cal.inHand = none) :
    let t := s.withLane { s.lane with reported := true }
    s.takeStartReport presence = if presence then t.enterDeckBlocked else t.enterIdle := by
  intro t
  have kept (u : State) (h : t.movesLane u) : u.postHeldRequest = u :=
    State.postHeldRequest_none ((congrArg CalState.inHand h.cal).trans nothing)
  have goes : s.takeStartReport presence = (if presence then t.enterDeckBlocked else t.enterIdle).postHeldRequest :=
    if_neg (show ¬ s.offline = true by simp [on])
  rw [goes]
  cases presence
  · exact kept _ t.enterIdle_moves
  · exact kept _ t.enterDeckBlocked_moves

section
variable (takes : s.laneTakes = true)
include takes

theorem exec_laneApproachOffer (near : End) (direction : Direction) : exec (.laneApproachOffer near direction) s =
    .next (if s.lane.state = .idle ∧ !s.lane.calHold then (s.took (.laneApproachOffer near direction)).enterApproach near direction
      else s.took (.laneApproachOffer near direction)) := by
  show execLaneApproachOffer near direction s = _
  rw [execLaneApproachOffer, State.whenLane_takes _ (by simpa using takes)]
  rfl

theorem exec_idWaitExpiry : exec .idWaitExpiry s = .next (if s.lane.idWait.isSome ∧ s.lane.state = .approach then
    (s.withLane { s.lane with idWait := none }).enterAssist .noToken else s) := by
  show execIdWaitExpiry s = _
  rw [execIdWaitExpiry, State.whenLane_takes _ takes]
  rfl

end

end

/-- Settles O27: the start report goes on by OFFLINE and presence, the offer and the ID wait by the lane state. -/
theorem startReportAndApproachOffer : Obligations.StartReportAndApproachOffer := by
  refine ⟨fun s presence armed inputs live first nothing => ?_, fun s near direction takes => ?_⟩
  · intro i started lowered
    have taken : exec i s = .next ((s.took i).takeStartReport presence) := exec_laneStartReport live first
    have reports (on : s.offline = false) := State.takeStartReport_reports (s := s.took i) presence on nothing
    refine ⟨fun off => taken.trans (congrArg _ (State.takeStartReport_offline (s := s.took i) presence off)),
      fun on absent => ?_, fun on present => ?_⟩
    · rw [taken, reports on, if_neg (by simp [absent])]
      rfl
    · rw [taken, reports on, if_pos present, State.enterDeckBlocked_eq]
      rfl
  · intro i
    refine ⟨fun idle free => ?_, fun h => ?_, fun runs approach => ?_, fun h => ?_⟩
    · rw [exec_laneApproachOffer takes, if_pos ⟨idle, by simp [free]⟩]
      rfl
    · rw [exec_laneApproachOffer takes, if_neg]
      rintro ⟨idle, free⟩
      rcases h with h | h
      · exact h idle
      · simp [h] at free
    · rw [exec_idWaitExpiry takes, if_pos ⟨runs, approach⟩]
      rfl
    · rw [exec_idWaitExpiry takes, if_neg]
      rintro ⟨runs, approach⟩
      rcases h with h | h
      · simp [h] at runs
      · exact h approach

/-! ### The near barrier sent up (R64, R65, R79) -/

/-- BOARDING entered with the near barrier raised, its condition not yet tested (R60, R64). -/
def State.boards (s : State) : State := (((s.raiseBarrier s.nearEnd).1.requestHeads (some s.nearEnd)).withLane { s.lane with
  state := .boarding, sign := .proceed, waitActive := false, leg := .rising
  record := { s.lane.record with assist := none } }).report

section
variable {s : State}

theorem State.boards_eq : (s.raiseBarrier s.nearEnd).1.enterBoarding = s.boards.boardingTest := by
  have sameEnd := s.raiseBarrier_nearEnd s.nearEnd
  have sameLane := s.raiseBarrier_lane s.nearEnd
  simp only [State.enterBoarding, State.boards, State.setState, State.requestHeads_lane, sameEnd, sameLane]
  rfl

theorem State.raiseToBoard_raises : s.raiseToBoard = ifAccepted (s.raiseBarrier s.nearEnd) State.enterBoarding := rfl

theorem State.raiseToBoard_refused (fault : (s.barrier s.nearEnd).state = .fault) :
    s.raiseToBoard = s.enterAssist .barrierFault := by
  rw [State.raiseToBoard_raises, ifAccepted_raise_refused _ fault]

theorem State.raiseToBoard_boards (works : (s.barrier s.nearEnd).state ≠ .fault) :
    s.raiseToBoard = s.boards.boardingTest := by
  rw [State.raiseToBoard_raises, ifAccepted_raises _ works, State.boards_eq]

@[simp] theorem State.boards_nearEnd : s.boards.nearEnd = s.nearEnd := by simp [State.boards]

theorem State.boards_boardingHolds : s.boards.boardingHolds = s.boardingHolds := by
  simp [State.boardingHolds, State.beamsClear, State.boards]

theorem State.boards_barrier : (s.boards.barrier s.nearEnd).state =
    ((s.raiseBarrier s.nearEnd).1.barrier s.nearEnd).state := by
  simp [State.boards, State.requestHeads_barrier]

theorem State.awaitsToken_iff : s.awaitsToken = true ↔
    s.lane.state = .approach ∨ (s.lane.state = .assist ∧ s.lane.record.assist = some .noToken) := by
  simp [State.awaitsToken]

end

section
variable {s : State} (takes : s.laneTakes = true)
include takes

theorem exec_readerMessage_discarded {m : List Byte} (h : decodeReader m = none ∨ ¬ s.awaitsToken = true) :
    exec (.readerMessage m) s = .next s := by
  show execReaderMessage m s = _
  rw [execReaderMessage, State.whenLane_takes _ takes]
  cases decoded : decodeReader m with
  | none => rfl
  | some p => exact congrArg _ (if_neg (h.resolve_left (by simp [decoded])))

theorem exec_readerMessage_taken {m : List Byte} {token : Token} {category : Option Category}
    (decoded : decodeReader m = some (token, category)) (awaits : s.awaitsToken = true) :
    exec (.readerMessage m) s = .next (s.takeReaderToken token category) := by
  show execReaderMessage m s = _
  rw [execReaderMessage, State.whenLane_takes _ takes]
  simp only [decoded, awaits, if_true]

theorem exec_token {target : Byte} {argument : List Byte} {token : Token} (own : target.toNat = s.own.val)
    (decoded : decodeToken argument = some token) :
    exec (.token target argument) s = .next ((s.took (.token target argument)).takeToken token) := by
  show execToken target argument s = _
  rw [execToken, State.whenTarget_own _ (by simpa using takes) (by simpa using own)]
  simp only [decoded]

end

/-- Settles O28: the token goes into the record, and the near barrier decides whether BOARDING is entered and left. -/
theorem tokenSendsTheNearBarrierUp : Obligations.TokenSendsTheNearBarrierUp := by
  refine ⟨fun s takes => ?_, fun t => ?_⟩
  · intro awaited
    have awaits : s.awaitsToken = true ↔ awaited := State.awaitsToken_iff
    refine ⟨fun m h => exec_readerMessage_discarded takes (h.imp_right (mt awaits.1)),
      fun m token category decoded h => exec_readerMessage_taken takes decoded (awaits.2 h),
      fun target argument token own decoded h => ?_⟩
    exact (exec_token takes own decoded).trans (congrArg _ (if_pos (awaits.2 h)))
  · intro near raised boards holds
    have held : t.boards.boardingHolds = true ↔ holds := by
      rw [State.boards_boardingHolds]
      exact t.boardingHolds_iff
    have stands : (t.boards.barrier t.boards.nearEnd).state = (raised.barrier near).state := by
      rw [State.boards_nearEnd, State.boards_barrier]
    refine ⟨State.raiseToBoard_refused, fun works h => ?_, fun works h up => ?_, fun works h fault => ?_⟩
    · rw [State.raiseToBoard_boards works, State.boardingTest_fails (mt held.1 h)]
      rfl
    · rw [State.raiseToBoard_boards works, State.boardingTest_lowers (held.2 h) (by rwa [stands]), State.boards_nearEnd]
      rfl
    · rw [State.raiseToBoard_boards works, State.boardingTest_refused (held.2 h) (by rwa [stands])]
      rfl

end Sys2Proof.Machine
end

section
/-! PROOFS. The capture at the lane: an inbound one goes on to its claim (R67, R121), an outbound one to the lookup of its
visit, with the net, the charge and the exit check (R68, R122, R124 to R126). -/

namespace Sys2Proof.Machine

theorem exec_capture {s : State} (weight : Nat) (takes : s.laneTakes = true) : exec (.capture weight) s =
    .next (if s.lane.state = .weighing ∧ s.lane.record.capture = none then
        ((s.took (.capture weight)).copyCapture weight).goOn
      else s.took (.capture weight)) := by
  show execCapture weight s = _
  rw [execCapture, State.whenLane_takes _ (by simpa using takes)]
  rfl

/-- Settles O32: a capture that is taken goes on to the claim, by JOINING and by the store's answer. -/
theorem inboundCaptureAsksForAClaim : Obligations.InboundCaptureAsksForAClaim := by
  intro s weight takes i held asked
  refine ⟨fun h => ?_, fun weighing fresh inbound => ?_⟩
  · rw [exec_capture weight takes, if_neg]
    rintro ⟨weighing, fresh⟩
    rcases h with h | h
    · exact h weighing
    · simp [fresh] at h
  · have goes : exec i s = .next ((s.took i).withLane held).goClaim := by
      rw [exec_capture weight takes, if_pos ⟨weighing, fresh⟩]
      exact congrArg _ (State.goOn_inbound (s := (s.took i).withLane held) inbound)
    rw [goes]
    refine ⟨fun joining => ?_, fun token c joined holdsToken holdsCategory => ⟨fun closed => ?_,
      fun kind rate tare answer => ?_⟩⟩
    · exact congrArg _ (State.goClaim_joining (s := (s.took i).withLane held) joining)
    · exact congrArg _ (State.goClaim_closed (s := (s.took i).withLane held) joined holdsToken holdsCategory
        (State.kindAnswer_closed token closed))
    · exact congrArg _ (State.goClaim_given (s := (s.took i).withLane held) joined holdsToken holdsCategory rfl answer)

/-! ### The lookup (R68, R122, R125) -/

section
variable {s : State} {token : Token} (holdsToken : s.lane.record.token = some token)
include holdsToken

theorem State.doLookup_found {v : VisitRecord} (found : s.visits.find token = some v) :
    s.doLookup = (s.keepLookup (s.visits.find token)).visitFound v := by
  simp only [State.doLookup, holdsToken, found]

theorem State.doLookup_absent (absent : s.visits.find token = none) :
    s.doLookup = (s.keepLookup (s.visits.find token)).visitAbsent := by
  simp only [State.doLookup, holdsToken, absent]

end

/-- The net, load direction and charge of a TWO-PASS visit with the capture held (R122, R124, R126). -/
theorem TxnRecord.formTwoPass_whole {r : TxnRecord} {weight : Nat} {time : Option DepotTime} (d : Nat) (v : VisitRecord)
    (captured : r.capture = some (weight, time)) :
    let net := max v.claim.weight weight - min v.claim.weight weight
    r.formTwoPass d v = { r with
      net := some net
      load := some (if weight < v.claim.weight then .delivery else if v.claim.weight < weight then .collection else .nil)
      charge := some ((2 * (net * v.claim.rate) + 1000) / 2000)
      belowMin := decide (net < 20 * d), tareOver := false } := by
  simp only [TxnRecord.formTwoPass, TxnRecord.captureWeight, captured]
  rfl

theorem TxnRecord.netStands_iff (r : TxnRecord) (n : VisitNumber) :
    r.netStands n = true ↔ r.net.isSome = true ∧ r.visitRef = some n := by
  simp [TxnRecord.netStands]

/-- The close of a visit asked for, with the record that the lookup leaves (R68). -/
def State.asksClose (s : State) (r : TxnRecord) (v : VisitRecord) : State :=
  { s with
    lane := { s.lane with record := r, asked := some .close }
    posted := s.posted ++ [.event (.closeRequest v.number)] }

section
variable {s : State} {v : VisitRecord}

theorem State.visitFound_twoPass (kind : v.claim.kind = .twoPass) : s.visitFound v = s.asksClose
    (if s.lane.record.netStands v.number then s.lane.record.withVisit v
      else (s.lane.record.withVisit v).formTwoPass s.retained.cal.interval v) v := by
  simp only [State.visitFound, kind]
  rfl

theorem State.visitFound_stands (kind : v.claim.kind = .twoPass)
    (stands : s.lane.record.net.isSome = true ∧ s.lane.record.visitRef = some v.number) :
    s.visitFound v = s.asksClose (s.lane.record.withVisit v) v := by
  rw [State.visitFound_twoPass kind, if_pos ((TxnRecord.netStands_iff _ _).2 stands)]

variable {weight : Nat} {time : Option DepotTime} (captured : s.lane.record.capture = some (weight, time))
include captured

theorem State.visitFound_forms (kind : v.claim.kind = .twoPass)
    (fresh : ¬ (s.lane.record.net.isSome = true ∧ s.lane.record.visitRef = some v.number)) :
    let net := max v.claim.weight weight - min v.claim.weight weight
    s.visitFound v = s.asksClose { s.lane.record.withVisit v with
      net := some net
      load := some (if weight < v.claim.weight then .delivery else if v.claim.weight < weight then .collection else .nil)
      charge := some ((2 * (net * v.claim.rate) + 1000) / 2000)
      belowMin := decide (net < 20 * s.retained.cal.interval), tareOver := false } v := by
  intro net
  rw [State.visitFound_twoPass kind, if_neg (mt (TxnRecord.netStands_iff _ _).1 fresh),
    TxnRecord.formTwoPass_whole (r := s.lane.record.withVisit v) _ _ captured]

variable {tare : Nat} (kind : v.claim.kind = .storedTare) (tared : v.claim.tare = some tare)
include kind tared

theorem State.visitFound_storedTare : s.visitFound v =
    if max weight tare - min weight tare ≤ s.cfg.tareTolerance * s.retained.cal.interval then
      s.asksClose (s.lane.record.withVisit v) v
    else (s.withRecord (s.lane.record.withVisit v)).enterAssist .tareDiscrepancy := by
  have weighed : (s.lane.record.withVisit v).captureWeight = weight := by
    simp only [TxnRecord.captureWeight, TxnRecord.withVisit, captured, Option.map_some, Option.getD_some]
  simp only [State.visitFound, kind, weighed, tared, exitCheck, twoPassNet, decide_eq_true_eq]
  rfl

theorem State.visitFound_passes
    (near : max weight tare - min weight tare ≤ s.cfg.tareTolerance * s.retained.cal.interval) :
    s.visitFound v = s.asksClose (s.lane.record.withVisit v) v := by
  rw [State.visitFound_storedTare captured kind tared, if_pos near]

theorem State.visitFound_differs
    (apart : s.cfg.tareTolerance * s.retained.cal.interval < max weight tare - min weight tare) :
    s.visitFound v = (s.withRecord (s.lane.record.withVisit v)).enterAssist .tareDiscrepancy := by
  rw [State.visitFound_storedTare captured kind tared, if_neg (Nat.not_le.2 apart)]

end

section
variable {s : State}

theorem State.visitAbsent_assist (joined : s.joining = false) : s.visitAbsent = s.enterAssist .unmatched :=
  if_neg (by simp [joined])

theorem State.visitAbsent_waits (joining : s.joining = true) (weighing : s.lane.state = .weighing) :
    s.visitAbsent = s.withLane { s.lane with sign := .wait, waitActive := true } := by
  rw [State.visitAbsent, if_pos joining, if_pos weighing]
  rfl

end

theorem State.goOn_outbound {s : State} (h : s.lane.record.direction = some .outbound) : s.goOn = s.doLookup := by
  simp only [State.goOn, h]

/-- Settles O33: a capture that is taken, and a wait that ends, look the visit up alike. -/
theorem outboundCaptureLooksUpTheVisit : Obligations.OutboundCaptureLooksUpTheVisit := by
  intro s token weight time i lane takes weighing outbound holdsToken cause answered found closing
  obtain ⟨goes, still, sameToken, captured⟩ : exec i s = .next ((s.took i).withLane lane).doLookup ∧
      lane.state = .weighing ∧ lane.record.token = some token ∧ lane.record.capture = some (weight, time) := by
    rcases cause with ⟨rfl, rfl, fresh, rfl⟩ | ⟨rfl, waits, held, rfl⟩
    · refine ⟨?_, weighing, holdsToken, rfl⟩
      rw [exec_capture weight takes, if_pos ⟨weighing, fresh⟩]
      exact congrArg _ (State.goOn_outbound (s := (s.took (.capture weight)).copyCapture weight) outbound)
    · refine ⟨?_, weighing, holdsToken, held⟩
      rw [exec_stationActive takes, if_pos ⟨weighing, waits⟩]
      exact congrArg _ (State.goOn_outbound (s := (s.took .stationActive).withLane _) outbound)
  have looks {v : VisitRecord} (holds : s.visits.find token = some v) {t : State}
      (h : (answered lane.record).visitFound v = t) : exec i s = .next t := by
    rw [goes, State.doLookup_found (s := (s.took i).withLane lane) sameToken holds]
    exact congrArg _ h
  refine ⟨fun v holds kind => ⟨fun stands => looks holds ?_, fun fresh => looks holds ?_⟩,
    fun v tare holds kind tared => ⟨fun near => looks holds ?_, fun apart => looks holds ?_⟩, fun absent => ?_⟩
  · exact State.visitFound_stands (s := answered lane.record) kind stands
  · exact State.visitFound_forms (s := answered lane.record) captured kind fresh
  · exact State.visitFound_passes (s := answered lane.record) captured kind tared near
  · exact State.visitFound_differs (s := answered lane.record) captured kind tared apart
  · rw [goes, State.doLookup_absent (s := (s.took i).withLane lane) sameToken absent]
    exact ⟨fun joined => congrArg _ (State.visitAbsent_assist (s := answered lane.record) joined),
      fun joining => congrArg _ (State.visitAbsent_waits (s := answered lane.record) joining still)⟩

end Sys2Proof.Machine
end

section
/-! PROOFS. An office command that waits for an outcome (R69, R71, R84), and the calibration hold (R87, R177). -/

namespace Sys2Proof.Machine

/-! ### The pending command (R84) -/

theorem State.withProgress_self {s : State} {p : Progress} (h : s.lane.record.progress = p) : s.withProgress p = s := by
  subst h
  rfl

@[simp] theorem State.report_retained (s : State) : s.report.retained = s.retained := by
  obtain ⟨l, h, -⟩ := s.report_shape
  rw [h]

/-- The pending command cleared and its result recorded (R84). -/
def State.settlePending (s : State) (c : HeldCommand) (r : CommandResult) : State :=
  s.clearPending.recordCommand c.command r

section
variable {s : State} {c : HeldCommand} (pending : s.lane.record.pendingCommand = some c)
include pending

theorem State.discardPending_held : s.discardPending = (s.settlePending c .refused).report := by
  simp only [State.discardPending, pending]
  rfl

theorem State.applyPendingOr_held (f : State → State) : s.applyPendingOr f = (s.settlePending c .done).applyHeld c := by
  simp only [State.applyPendingOr, pending]
  rfl

theorem State.applyPendingOr_progress (p : Progress) (r : Reason) :
    ((s.withProgress p).applyPendingOr fun s => s.enterAssist r) =
      ((s.withProgress p).settlePending c .done).applyHeld c :=
  State.applyPendingOr_held (s := s.withProgress p) pending fun s => s.enterAssist r

theorem State.takeFull_held : s.takeClaimOutcome .full = (s.settlePending c .done).applyHeld c :=
  State.applyPendingOr_held pending _

theorem State.takeDuplicate_held :
    s.takeClaimOutcome .duplicate = ((s.withProgress .none).settlePending c .done).applyHeld c :=
  State.applyPendingOr_progress pending _ _

theorem State.takeClaimNotDelivered_held :
    s.takeClaimOutcome .notDelivered = ((s.withProgress .claimDropped).settlePending c .done).applyHeld c :=
  State.applyPendingOr_progress pending _ _

theorem State.takeAdmitted_held : s.takeClaimOutcome .admitted = (s.settlePending c .refused).report.admitted :=
  congrArg State.admitted (State.discardPending_held pending)

theorem State.takeAbsent_held :
    s.takeCloseOutcome .absent = ((s.withProgress .none).settlePending c .done).applyHeld c :=
  State.applyPendingOr_progress pending _ _

theorem State.takeCloseNotDelivered_held :
    s.takeCloseOutcome .notDelivered = ((s.withProgress .closeDropped).settlePending c .done).applyHeld c :=
  State.applyPendingOr_progress pending _ _

theorem State.takeFound_held : s.takeCloseOutcome .found = (s.settlePending c .refused).report.closeFound :=
  congrArg State.closeFound (State.discardPending_held pending)

end

/-- Settles O36: the outcome is the lane's own, and the pending command is discarded or applied before it is taken. -/
theorem pendingCommandIsSettledByTheOutcome : Obligations.PendingCommandIsSettledByTheOutcome := by
  intro s n c takes pending ref settled applied
  have settles (i : Instr) (p : Progress) (r : CommandResult) :
      ((s.took i).withProgress p).settlePending c r = settled i p r := by
    cases c <;> rfl
  have applies (t : State) : t.applyHeld c = applied t := by
    cases c <;> rfl
  have keeps {p : Progress} (h : s.lane.record.progress = p) (i : Instr) (r : CommandResult) :
      (s.took i).settlePending c r = settled i p r := by
    rw [← settles, State.withProgress_self (s := s.took i) h]
  refine ⟨fun claiming out => ?_, fun closing out => ?_⟩
  · have own := (s.lane.ownsClaim_iff n).2 ⟨claiming, ref, out⟩
    have taken (r : ClaimResult) : exec (.claimOutcome n r) s =
        .next ((s.took (.claimOutcome n r)).takeClaimOutcome r) :=
      (exec_claimOutcome n takes r).trans (congrArg _ (if_pos own))
    refine ⟨?_, ?_, ?_, fun twoPass => ⟨_, rfl, ?_⟩, fun weight time tare rate stored captured tared rated => ⟨_, rfl, ?_⟩⟩
    · rw [taken, State.takeFull_held (s := s.took _) pending, keeps out, applies]
    · rw [taken, State.takeDuplicate_held (s := s.took _) pending, settles, applies]
    · rw [taken, State.takeClaimNotDelivered_held (s := s.took _) pending, settles, applies]
    · rw [taken, State.takeAdmitted_held (s := s.took _) pending, keeps out,
        State.admitted_twoPass (by rw [State.report_lane]; exact twoPass)]
      rfl
    · have same := State.report_lane (settled (.claimOutcome n .admitted) .claimOut .refused)
      have interval : (settled (.claimOutcome n .admitted) .claimOut .refused).report.retained.cal.interval =
          s.retained.cal.interval := congrArg (fun r : Retained => r.cal.interval) (State.report_retained _)
      rw [taken, State.takeAdmitted_held (s := s.took _) pending, keeps out,
        State.admitted_storedTare (by rw [same]; exact stored), interval,
        TxnRecord.formStoredTare_whole _ (weight := weight) (time := time) (tare := tare) (rate := rate)
          (by rw [same]; exact captured) (by rw [same]; exact tared) (by rw [same]; exact rated)]
      rfl
  · have own := (s.lane.ownsClose_iff n).2 ⟨closing, ref, out⟩
    have taken (r : CloseResult) : exec (.closeOutcome n r) s =
        .next ((s.took (.closeOutcome n r)).takeCloseOutcome r) :=
      (exec_closeOutcome n takes r).trans (congrArg _ (if_pos own))
    refine ⟨?_, ?_, fun twoPass => ⟨_, rfl, ?_⟩, fun stored => ⟨_, rfl, ?_⟩⟩
    · rw [taken, State.takeAbsent_held (s := s.took _) pending, settles, applies]
    · rw [taken, State.takeCloseNotDelivered_held (s := s.took _) pending, settles, applies]
    · rw [taken, State.takeFound_held (s := s.took _) pending, keeps out,
        State.closeFound_twoPass (by rw [State.report_lane]; exact twoPass)]
      rfl
    · rw [taken, State.takeFound_held (s := s.took _) pending, keeps out,
        State.closeFound_storedTare (by rw [State.report_lane]; exact stored)]
      rfl

end Sys2Proof.Machine
end

section
/-! PROOFS. The calibration hold (R87, R177). -/

namespace Sys2Proof.Machine

section
variable {s : State} (takes : s.laneTakes = true)
include takes

theorem exec_calHoldRequest : exec .calHoldRequest s = .next (if s.lane.state = .idle then
    (s.took .calHoldRequest).grantHold else (s.took .calHoldRequest).refuseHold) := by
  show execCalHoldRequest s = _
  rw [execCalHoldRequest, State.whenLane_takes _ (by simpa using takes)]
  rfl

theorem exec_calHoldRelease : exec .calHoldRelease s = .next (if s.lane.calHold then
    ((s.took .calHoldRelease).withLane { s.lane with calHold := false, sign := .blank }).post .ready
      else s.took .calHoldRelease) := by
  show execCalHoldRelease s = _
  rw [execCalHoldRelease, State.whenLane_takes _ (by simpa using takes)]
  rfl

end

/-- The lane with the hold granted: the sign STOP and CAL-HOLD sent (R87). -/
def State.holdGranted (s : State) : State :=
  ((s.withLane { s.lane with calHold := true, sign := .stop }).answerHold true).post .calHold

section
variable {s : State}

section
variable {h : CalInHand} (inHand : s.cal.inHand = some h) (awaits : h.stage = .awaitingHold)
include inHand awaits

theorem State.grantHold_measures : s.grantHold = s.holdGranted.startMeasuring h.request := by
  simp only [State.grantHold, State.post_cal, State.answerHold_cal, inHand, if_pos awaits]
  rfl

theorem State.refuseHold_answers : s.refuseHold = { s.answerHold false with
    cal := { s.cal with inHand := none }, lines := { s.lines with service := some { code := .laneBusy } } } := by
  simp only [State.refuseHold, State.answerHold_cal, inHand, if_pos awaits]
  rfl

end

section
variable (nothing : ∀ h, s.cal.inHand = some h → h.stage ≠ .awaitingHold)
include nothing

theorem State.grantHold_only : s.grantHold = s.holdGranted := by
  cases inHand : s.cal.inHand with
  | none => simp only [State.grantHold, State.post_cal, State.answerHold_cal, inHand]; rfl
  | some h => simp only [State.grantHold, State.post_cal, State.answerHold_cal, inHand, if_neg (nothing h inHand)]; rfl

theorem State.refuseHold_only : s.refuseHold = s.answerHold false := by
  cases inHand : s.cal.inHand with
  | none => simp only [State.refuseHold, State.answerHold_cal, inHand]
  | some h => simp only [State.refuseHold, State.answerHold_cal, inHand, if_neg (nothing h inHand)]

end

end

/-- Settles O38: IDLE decides the answer, and the request in hand what follows it. -/
theorem calibrationHoldIsGrantedInIdle : Obligations.CalibrationHoldIsGrantedInIdle := by
  intro s takes i k granted refused
  have grants (idle : s.lane.state = .idle) : exec i s = .next (s.took i).grantHold :=
    (exec_calHoldRequest takes).trans (congrArg _ (if_pos idle))
  have refuses (busy : s.lane.state ≠ .idle) : exec i s = .next (s.took i).refuseHold :=
    (exec_calHoldRequest takes).trans (congrArg _ (if_neg busy))
  refine ⟨fun h inHand awaits => ⟨fun idle => ?_, fun busy => ?_⟩, fun nothing => ⟨fun idle => ?_, fun busy => ?_⟩,
    fun held => ?_, fun free => ?_⟩
  · exact (grants idle).trans (congrArg _ (State.grantHold_measures (s := s.took i) inHand awaits))
  · exact (refuses busy).trans (congrArg _ (State.refuseHold_answers (s := s.took i) inHand awaits))
  · exact (grants idle).trans (congrArg _ (State.grantHold_only (s := s.took i) nothing))
  · exact (refuses busy).trans (congrArg _ (State.refuseHold_only (s := s.took i) nothing))
  · exact (exec_calHoldRelease takes).trans (congrArg _ (if_pos held))
  · exact (exec_calHoldRelease takes).trans (congrArg _ (if_neg (by simp [free])))

end Sys2Proof.Machine
end

section
/-! PROOFS. The office commands at the lane: those passed over or refused (R80), and RETRY, PASS and BACK (R79, R82 to R84,
R86). -/

namespace Sys2Proof.Machine

/-! ### Passed over, and taken at this station (R80) -/

/-- A LANE-COMMAND for another station is passed over (R80). -/
theorem State.whenTarget_other {s : State} {target : Byte} (f : State → State) (other : target.toNat ≠ s.own.val) :
    s.whenTarget target f = s := by
  rw [State.whenTarget, State.whenLane, if_neg other, ite_self]

section
variable {s : State} {target : Byte} {argument : List Byte} (takes : s.laneTakes = true)
  (own : target.toNat = s.own.val)
include takes own

theorem exec_token_malformed (malformed : decodeToken argument = none) :
    exec (.token target argument) s = .next ((s.took (.token target argument)).refuse .token) := by
  show execToken target argument s = _
  rw [execToken, State.whenTarget_own _ (by simpa using takes) (by simpa using own)]
  simp only [malformed]

theorem exec_category {c : Category} (given : argumentCategory argument = some c) :
    exec (.category target argument) s = .next ((s.took (.category target argument)).takeCategory c) := by
  show execCategory target argument s = _
  rw [execCategory, State.whenTarget_own _ (by simpa using takes) (by simpa using own)]
  simp only [given]

theorem exec_category_malformed (malformed : argumentCategory argument = none) :
    exec (.category target argument) s = .next ((s.took (.category target argument)).refuse .category) := by
  show execCategory target argument s = _
  rw [execCategory, State.whenTarget_own _ (by simpa using takes) (by simpa using own)]
  simp only [malformed]

theorem exec_retry : exec (.retry target argument) s = .next (if s.lane.state = .assist ∧ s.lane.asked = none then
    (s.took (.retry target argument)).resume else (s.took (.retry target argument)).refuse .retry) := by
  show execRetry target argument s = _
  rw [execRetry, State.whenTarget_own _ (by simpa using takes) (by simpa using own)]
  rfl

theorem exec_pass : exec (.pass target argument) s = .next (s.took (.pass target argument)).takePass := by
  show execPass target argument s = _
  rw [execPass, State.whenTarget_own _ (by simpa using takes) (by simpa using own)]

theorem exec_back : exec (.back target argument) s = .next (s.took (.back target argument)).takeBack := by
  show execBack target argument s = _
  rw [execBack, State.whenTarget_own _ (by simpa using takes) (by simpa using own)]

theorem exec_zero : exec (.zero target argument) s = .next (if s.idleOrAssist then
    (s.took (.zero target argument)).post .zeroTest else (s.took (.zero target argument)).refuse .zero) := by
  show execZero target argument s = _
  rw [execZero, State.whenTarget_own _ (by simpa using takes) (by simpa using own)]
  rfl

theorem exec_raise_refused (h : argumentEnd argument = none ∨ ¬ s.idleOrAssist = true) :
    exec (.raise target argument) s = .next ((s.took (.raise target argument)).refuse .raise) := by
  show execRaise target argument s = _
  rw [execRaise, State.whenTarget_own _ (by simpa using takes) (by simpa using own)]
  cases given : argumentEnd argument with
  | none => rfl
  | some e => exact congrArg _ (if_neg (h.resolve_left (by simp [given])))

theorem exec_lower_refused (h : argumentEnd argument = none ∨ ¬ s.idleOrAssist = true) :
    exec (.lower target argument) s = .next ((s.took (.lower target argument)).refuse .lower) := by
  show execLower target argument s = _
  rw [execLower, State.whenTarget_own _ (by simpa using takes) (by simpa using own)]
  cases given : argumentEnd argument with
  | none => rfl
  | some e => exact congrArg _ (if_neg (h.resolve_left (by simp [given])))

theorem exec_barrierReset_malformed (malformed : argumentEnd argument = none) :
    exec (.barrierReset target argument) s = .next ((s.took (.barrierReset target argument)).refuse .barrierReset) := by
  show execBarrierReset target argument s = _
  rw [execBarrierReset, State.whenTarget_own _ (by simpa using takes) (by simpa using own)]
  simp only [malformed]

end

/-! ### What the lane state does not take (R79 to R83) -/

theorem State.idleOrAssist_iff (s : State) : s.idleOrAssist = true ↔ s.lane.state = .idle ∨ s.lane.state = .assist := by
  simp [State.idleOrAssist]

section
variable {s : State}

theorem State.takeToken_refused (token : Token) (notAwaited : ¬ s.awaitsToken = true)
    (notUnmatched : ¬ (s.lane.state = .assist ∧ s.lane.record.assist = some .unmatched)) :
    s.takeToken token = s.refuse .token := by
  rw [State.takeToken, if_neg notAwaited, if_neg notUnmatched]

theorem State.takeCategory_refused (c : Category) (h : s.lane.record.direction ≠ some .inbound ∨
    (¬ (s.lane.state = .weighing ∧ s.lane.asked = none) ∧
      ¬ (s.lane.state = .assist ∧ s.lane.record.assist = some .categoryClosed))) :
    s.takeCategory c = s.refuse .category := by
  rw [State.takeCategory]
  rcases h with outbound | ⟨notWeighing, notClosed⟩
  · exact if_pos outbound
  · rw [if_neg notWeighing, if_neg notClosed, ite_self]

theorem State.resume_fresh (h : s.lane.record.progress = .none) : s.resume = s.retryFresh := by
  simp only [State.resume, h]

theorem State.retryFresh_refused (notBoarded : s.lane.record.boarded = false) (noToken : s.lane.record.token = none) :
    s.retryFresh = s.refuse .retry := by
  rw [State.retryFresh, if_neg (by simp [notBoarded]), if_neg (by simp [noToken])]

theorem State.takePass_refused (h : s.lane.state ∈ [LaneState.idle, .approach, .boarding, .weighing, .departing, .reversing]) :
    s.takePass = s.refuse .pass := by
  simp only [List.mem_cons, List.not_mem_nil, or_false] at h
  rcases h with h | h | h | h | h | h <;> simp only [State.takePass, h]

theorem State.takeBack_refused (h : s.lane.state ∈ [LaneState.idle, .ticketing, .departing, .reversing]) :
    s.takeBack = s.refuse .back := by
  simp only [List.mem_cons, List.not_mem_nil, or_false] at h
  rcases h with h | h | h | h <;> simp only [State.takeBack, h]

end

/-- Settles O39: a command for another station is passed over, and each of the others is refused by the lane state. -/
theorem officeCommandsPassedOverOrRefused : Obligations.OfficeCommandsPassedOverOrRefused := by
  refine ⟨fun s target argument other => ⟨fun i office => ?_, fun code => State.whenTarget_other _ other⟩,
    fun s target argument takes own => ?_⟩
  · simp only [List.mem_cons, List.not_mem_nil, or_false] at office
    rcases office with rfl | rfl | rfl | rfl | rfl | rfl | rfl | rfl | rfl | rfl | rfl <;>
      exact congrArg Host.Outcome.next (State.whenTarget_other (s := s.took _) _ other)
  · intro refused assistFor
    have notIdle (h : s.lane.state ≠ .idle ∧ s.lane.state ≠ .assist) : ¬ s.idleOrAssist = true := by
      rw [State.idleOrAssist_iff]
      exact not_or.2 h
    refine ⟨fun h => ?_, fun h => ?_, fun h => ?_, fun h => ?_, fun h => ?_, fun notIdle' notAssist => ?_, fun h => ⟨?_, ?_⟩,
      exec_barrierReset_malformed takes own, fun code => State.whenTarget_own _ takes own⟩
    · cases given : decodeToken argument with
      | none => exact exec_token_malformed takes own given
      | some token =>
        obtain ⟨notApproach, notNoToken, notUnmatched⟩ := h.resolve_left (by simp [given])
        refine (exec_token takes own given).trans (congrArg _ (State.takeToken_refused token ?_ notUnmatched))
        rw [State.awaitsToken_iff]
        exact not_or.2 ⟨notApproach, notNoToken⟩
    · cases given : argumentCategory argument with
      | none => exact exec_category_malformed takes own given
      | some c =>
        exact (exec_category takes own given).trans
          (congrArg _ (State.takeCategory_refused c (h.resolve_left (by simp [given]))))
    · by_cases waiting : s.lane.state = .assist ∧ s.lane.asked = none
      · obtain ⟨fresh, notBoarded, noToken⟩ :=
          (h.resolve_left (not_not_intro waiting.1)).resolve_left (by simp [waiting.2])
        exact (exec_retry takes own).trans (congrArg _ ((if_pos waiting).trans
          ((State.resume_fresh (s := s.took _) fresh).trans (State.retryFresh_refused notBoarded noToken))))
      · exact (exec_retry takes own).trans (congrArg _ (if_neg waiting))
    · exact (exec_pass takes own).trans (congrArg _ (State.takePass_refused h))
    · exact (exec_back takes own).trans (congrArg _ (State.takeBack_refused h))
    · exact (exec_zero takes own).trans (congrArg _ (if_neg (notIdle ⟨notIdle', notAssist⟩)))
    · exact exec_raise_refused takes own (h.imp_right notIdle)
    · exact exec_lower_refused takes own (h.imp_right notIdle)

end Sys2Proof.Machine
end

section
/-! PROOFS. RETRY by the progress (R79), and PASS and BACK, applied or held (R82 to R84, R86). -/

namespace Sys2Proof.Machine

/-! ### RETRY (R79) -/

section
variable {s : State}

theorem State.retryFresh_boarded (boarded : s.lane.record.boarded = true) :
    s.retryFresh = (s.recordCommand .retry .done).enterWeighing := if_pos boarded

theorem State.retryFresh_token (notBoarded : s.lane.record.boarded = false) (token : s.lane.record.token.isSome = true) :
    s.retryFresh = (s.recordCommand .retry .done).raiseToBoard := by
  rw [State.retryFresh, if_neg (by simp [notBoarded]), if_pos token]

/-- Log 46: progress CLAIM-OUT is a re-claim whichever state the lane came from. -/
theorem State.resume_reclaims (h : s.lane.record.progress = .claimDropped ∨ s.lane.record.progress = .claimOut) :
    s.resume = (s.recordCommand .retry .done).askReclaim.report := by
  rcases h with h | h <;> simp only [State.resume, h]

theorem State.resume_recloses (h : s.lane.record.progress = .closeDropped) :
    s.resume = (s.recordCommand .retry .done).askCloseAgain.report := by
  simp only [State.resume, h]

theorem State.resume_issues (h : (s.lane.record.progress = .admitted ∧ s.lane.record.kind = some .storedTare) ∨
    (s.lane.record.progress = .closed ∧ s.lane.record.kind = some .twoPass)) :
    s.resume = (s.recordCommand .retry .done).startIssue := by
  rcases h with ⟨progress, kind⟩ | ⟨progress, kind⟩ <;> simp only [State.resume, progress, kind]

theorem State.resume_departs (h : s.lane.record.progress = .released) :
    s.resume = (s.recordCommand .retry .done).depart := by
  simp only [State.resume, h]

theorem State.askCloseAgain_frame {n : VisitNumber} (ref : s.lane.record.visitRef = some n) : s.askCloseAgain = { s with
    lane := { s.lane with asked := some .close }, posted := s.posted ++ [.event (.reclaim (.closeFrame n))] } := by
  simp only [State.askCloseAgain, ref]
  rfl

end

/-! ### PASS and BACK (R82 to R84, R86) -/

section
variable {s : State}

theorem State.takePass_applies (h : s.lane.state ∈ [LaneState.assist, .held, .ticketing]) :
    s.takePass = (s.recordCommand .pass .done).applyPass := by
  simp only [List.mem_cons, List.not_mem_nil, or_false] at h
  rcases h with h | h | h <;> simp only [State.takePass, h]

theorem State.takeBack_applies (h : s.lane.state ∈ [LaneState.approach, .boarding, .weighing, .held, .assist]) :
    s.takeBack = (s.recordCommand .back .done).applyBack := by
  simp only [List.mem_cons, List.not_mem_nil, or_false] at h
  rcases h with h | h | h | h | h <;> simp only [State.takeBack, h]

theorem State.takePass_blocked (h : s.lane.state = .deckBlocked) :
    s.takePass = ((s.recordCommand .pass .done).setBlockedEnds).applyPass := by
  simp only [State.takePass, h]

theorem State.takeBack_blocked (h : s.lane.state = .deckBlocked) :
    s.takeBack = ((s.recordCommand .back .done).setBlockedEnds).applyBack := by
  simp only [State.takeBack, h]

section
variable (h : s.lane.state = .claiming ∨ s.lane.state = .closing)
include h

theorem State.takePass_holds : s.takePass = s.hold .pass := by
  rcases h with h | h <;> simp only [State.takePass, h]

theorem State.takeBack_holds : s.takeBack = s.hold .back := by
  rcases h with h | h <;> simp only [State.takeBack, h]

end

/-- The command held, and reported ACCEPTED (R84). -/
def State.holds (s : State) (c : HeldCommand) : State := State.report (s.withLane { s.lane with
  lastCommand := some ⟨c.command, .accepted⟩, record := { s.lane.record with pendingCommand := some c } })

theorem State.hold_free (c : HeldCommand) (free : s.lane.record.pendingCommand = none) : s.hold c = s.holds c := by
  simp only [State.hold, free]
  rfl

/-- Log 49: the command that is replaced is reported first, in a frame of its own. -/
theorem State.hold_replaces (c : HeldCommand) {p : HeldCommand} (pending : s.lane.record.pendingCommand = some p) :
    s.hold c = (s.settlePending p .refused).report.holds c := by
  simp only [State.hold, pending]
  rfl

end

theorem State.applyPass_eq (s : State) :
    s.applyPass = (s.waitsForNothing.gives s.lane.issueWithdrawn).depart := by
  rw [State.applyPass, State.withdraw_eq, State.withdrawIssue_gives]
  rfl

/-- Settles O41: RETRY by the progress, PASS and BACK by the lane state. -/
theorem retryPassAndBackAreTaken : Obligations.RetryPassAndBackAreTaken := by
  refine ⟨fun s target argument takes own assist free => ?_, fun s target argument takes own => ?_, State.applyPass_eq⟩
  · intro i taken again progress
    have resumes {t : State} (h : (s.took i).resume = t) : exec i s = .next t :=
      (exec_retry takes own).trans (congrArg _ ((if_pos ⟨assist, free⟩).trans h))
    refine ⟨fun fresh boarded => resumes ?_, fun fresh notBoarded token => resumes ?_, fun f h frame => resumes ?_,
      fun n h ref => resumes ?_, fun h => resumes (State.resume_issues (s := s.took i) h),
      fun h => resumes (State.resume_departs (s := s.took i) h)⟩
    · exact (State.resume_fresh (s := s.took i) fresh).trans (State.retryFresh_boarded (s := s.took i) boarded)
    · exact (State.resume_fresh (s := s.took i) fresh).trans (State.retryFresh_token (s := s.took i) notBoarded token)
    · exact (State.resume_reclaims (s := s.took i) h).trans
        (congrArg State.report (State.askReclaim_frame (s := taken) frame))
    · exact (State.resume_recloses (s := s.took i) h).trans
        (congrArg State.report (State.askCloseAgain_frame (s := taken) ref))
  · intro office taken ended
    have passes {t : State} (h : (s.took (.pass target argument)).takePass = t) :
        exec (.pass target argument) s = .next t := (exec_pass takes own).trans (congrArg _ h)
    have backs {t : State} (h : (s.took (.back target argument)).takeBack = t) :
        exec (.back target argument) s = .next t := (exec_back takes own).trans (congrArg _ h)
    have sameOffice (c : HeldCommand) : office c = c.command := by cases c <;> rfl
    refine ⟨fun h => passes (State.takePass_applies (s := s.took _) h),
      fun h => ⟨passes (State.takePass_blocked (s := s.took _) h), backs (State.takeBack_blocked (s := s.took _) h)⟩,
      fun h => backs (State.takeBack_applies (s := s.took _) h), fun i c which h => ?_⟩
    have held : exec i s = .next ((s.took i).hold c) := by
      rcases which with ⟨rfl, rfl⟩ | ⟨rfl, rfl⟩
      · exact passes (State.takePass_holds (s := s.took _) h)
      · exact backs (State.takeBack_holds (s := s.took _) h)
    refine ⟨fun free => ?_, fun p pending => ?_⟩
    · rw [held, State.hold_free (s := s.took i) c free, sameOffice]
      rfl
    · rw [held, State.hold_replaces (s := s.took i) c pending, sameOffice, sameOffice]
      rfl

end Sys2Proof.Machine
end

section
/-! PROOFS. The office commands that other blocks carry out: CATEGORY, ZERO, RAISE and LOWER (R81, R85), a second TOKEN (R81),
and REPRINT (R134, R135, R139). -/

namespace Sys2Proof.Machine

/-! ### CATEGORY, RAISE and LOWER (R81, R85) -/

section
variable {s : State} {c : Category} (inbound : s.lane.record.direction = some .inbound)
include inbound

theorem State.takeCategory_weighing (weighing : s.lane.state = .weighing) (free : s.lane.asked = none) :
    s.takeCategory c = (s.withCategory c).reportCommand .category .done := by
  rw [State.takeCategory, if_neg (not_not_intro inbound), if_pos ⟨weighing, free⟩]

theorem State.takeCategory_reopens (assist : s.lane.state = .assist)
    (closed : s.lane.record.assist = some .categoryClosed) : s.takeCategory c = s.reopenCategory c := by
  rw [State.takeCategory, if_neg (not_not_intro inbound), if_neg (by simp [assist]), if_pos ⟨assist, closed⟩]

end

section
variable {s : State} {c : Category}

theorem State.reopenCategory_rated {rate : Nat} (h : s.store.tariff[c] = some rate) : s.reopenCategory c =
    State.enterWeighing { s with
      answers := { s.answers with closed := some false }
      lane := { s.lane with
        lastCommand := some ⟨.category, .done⟩, record := { s.lane.record with category := some c } } } := by
  simp only [State.reopenCategory, State.askClosed, State.isClosed, h]
  rfl

theorem State.reopenCategory_closed (h : s.store.tariff[c] = none) : s.reopenCategory c =
    State.refuse { s with answers := { s.answers with closed := some true } } .category := by
  simp only [State.reopenCategory, State.askClosed, State.isClosed, h]
  rfl

end

section
variable {s : State} {target : Byte} {argument : List Byte} {e : End} (takes : s.laneTakes = true)
  (own : target.toNat = s.own.val) (given : argumentEnd argument = some e) (taken : s.idleOrAssist = true)
include takes own given taken

theorem exec_raise : let t := s.took (.raise target argument)
    exec (.raise target argument) s =
      .next ((t.raiseBarrier e).1.reportCommand .raise (barrierAnswer (t.raiseBarrier e).2)) := by
  show execRaise target argument s = _
  rw [execRaise, State.whenTarget_own _ (by simpa using takes) (by simpa using own)]
  simp only [given]
  exact congrArg _ (if_pos taken)

theorem exec_lower : let t := s.took (.lower target argument)
    exec (.lower target argument) s =
      .next ((t.lowerBarrier e).1.reportCommand .lower (barrierAnswer (t.lowerBarrier e).2)) := by
  show execLower target argument s = _
  rw [execLower, State.whenTarget_own _ (by simpa using takes) (by simpa using own)]
  simp only [given]
  exact congrArg _ (if_pos taken)

end

section
variable (s : State) (e : End)

theorem State.barrierAnswer_raise : barrierAnswer (s.raiseBarrier e).2 =
    if (s.barrier e).state = .fault then .refused else .accepted := by
  by_cases fault : (s.barrier e).state = .fault
  · rw [State.raiseBarrier_fault fault, if_pos fault]
    rfl
  · rw [(s.raiseBarrier_accepted e).2 fault, if_neg fault]
    rfl

theorem State.barrierAnswer_lower : barrierAnswer (s.lowerBarrier e).2 =
    if (s.barrier e).state = .fault then .refused else .accepted := by
  by_cases fault : (s.barrier e).state = .fault
  · rw [State.lowerBarrier_fault fault, if_pos fault]
    rfl
  · rw [(s.lowerBarrier_accepted e).2 fault, if_neg fault]
    rfl

end

/-! ### A second TOKEN (R81) -/

@[simp] theorem State.raiseHelp_asked (s : State) (r : Reason) : (s.raiseHelp r).lane.asked = s.lane.asked := by
  obtain ⟨l, h, o, e, -⟩ := s.raiseHelp_shape r
  rw [e]

/-- ASSIST asks for no frame of its own. -/
theorem State.enterAssist_asked {s : State} (r : Reason) (free : s.lane.asked = none) :
    (s.enterAssist r).lane.asked = none := by
  rw [State.enterAssist_eq, State.report_lane, State.raiseHelp_asked]
  simp [free]

/-- The lane with the office's token in its record, and no frame waiting (R81). -/
def State.takesAgain (s : State) (token : Token) : State :=
  ((s.recordCommand .token .done).withdraw).manualToken token

section
variable {s : State} (token : Token)

theorem State.takeToken_unmatched (assist : s.lane.state = .assist) (unmatched : s.lane.record.assist = some .unmatched) :
    s.takeToken token = (s.recordCommand .token .done).lookupAgain token := by
  have notAwaited : ¬ s.awaitsToken = true := by simp [State.awaitsToken, assist, unmatched]
  rw [State.takeToken, if_neg notAwaited, if_pos ⟨assist, unmatched⟩]

theorem State.lookupAgain_eq : (s.recordCommand .token .done).lookupAgain token =
    let t := (s.takesAgain token).doLookup
    if t.lane.asked.isSome then t.report else t := rfl

theorem State.takesAgain_eq : s.takesAgain token = { s with
    posted := if s.lane.asked.isSome = true then
        s.posted.filter (fun p => !isFrameRequest p) ++ [.event .frameWithdraw]
      else s.posted
    lane := { s.lane with
      asked := none, lastCommand := some ⟨.token, .done⟩
      record := { s.lane.record with token := some token, manual := true } } } := by
  rw [State.takesAgain, State.withdraw_eq]
  rfl

theorem State.takesAgain_token : (s.takesAgain token).lane.record.token = some token := by rw [State.takesAgain_eq]

theorem State.takesAgain_visits : (s.takesAgain token).visits = s.visits := by rw [State.takesAgain_eq]

/-- A close that the lookup asks for is reported in ASSIST (log 18). -/
theorem State.lookupAgain_asks {r : TxnRecord} {v : VisitRecord} {t : State}
    (h : (s.takesAgain token).doLookup = t.asksClose r v) :
    (s.recordCommand .token .done).lookupAgain token = (t.asksClose r v).report := by
  rw [State.lookupAgain_eq, h]
  rfl

/-- A lookup that asks for no close is reported by the state it enters. -/
theorem State.lookupAgain_enters {t : State} (h : (s.takesAgain token).doLookup = t) (free : t.lane.asked = none) :
    (s.recordCommand .token .done).lookupAgain token = t := by
  rw [State.lookupAgain_eq, h]
  exact if_neg (by simp [free])

end

/-- Log 18: the wait for ACTIVE that begins in ASSIST is an entry into WEIGHING. -/
theorem State.visitAbsent_weighs {s : State} (joining : s.joining = true) (elsewhere : s.lane.state ≠ .weighing) :
    s.visitAbsent = State.report { s.requestHeads none with
      weigh := { s.weigh with captureRequest := true, window := [] }
      lane := { s.lane with
        state := .weighing, sign := .wait, waitActive := true, leg := .rising
        record := { s.lane.record with assist := none } } } := by
  rw [State.visitAbsent, if_pos joining, if_neg elsewhere]
  rfl

/-! ### The first entry of a queue that is changed (R133 to R136) -/

section
variable {p : TicketEntry → Bool} (f : TicketEntry → TicketEntry) {before behind : List TicketEntry} {e : TicketEntry}
  (none : ∀ b ∈ before, p b = false) (first : p e = true)
include none first

theorem changeFirst_append : changeFirst p f (before ++ e :: behind) = before ++ f e :: behind := by
  induction before with
  | nil => exact if_pos first
  | cons b bs ih =>
    have notB : p b = false := none b List.mem_cons_self
    rw [List.cons_append, changeFirst, if_neg (by simp [notB]), ih fun c mem => none c (List.mem_cons_of_mem _ mem)]
    rfl

theorem find_append : (before ++ e :: behind).find? p = some e :=
  List.find?_eq_some_iff_append.2 ⟨first, before, behind, rfl, fun b mem => by simp [none b mem]⟩

end

/-! ### REPRINT (R134, R135, R139) -/

/-- Trying to start a frame goes by the link controller, the straps and the phase table alone. -/
theorem State.tryStart_beside {s t : State} (link : t.link = s.link) (loader : t.loader = s.loader) (cfg : t.cfg = s.cfg) :
    t.tryStart = { t with link := s.tryStart.link } := by
  have sameOffline : t.offline = s.offline := by rw [State.offline, loader, ← State.offline]
  unfold State.tryStart
  rw [link, cfg, sameOffline]
  split
  · rfl
  · rw [← link, ← cfg]

/-- The link controller after a frame is placed at the tail of its queue (R144, R152). -/
def State.linkAfter (s : State) (f : Frame) : LinkState := (State.tryStart { s with link := s.link.push f }).link

theorem State.linkAfter_beside {s t : State} (f : Frame) (link : t.link = s.link) (loader : t.loader = s.loader)
    (cfg : t.cfg = s.cfg) : t.linkAfter f = s.linkAfter f := by
  have started := State.tryStart_beside (s := { s with link := s.link.push f }) (t := { t with link := t.link.push f })
    (by rw [link]) loader cfg
  rw [State.linkAfter, started]
  rfl

section
variable {s : State}

theorem State.place_links {f : Frame} (on : s.offline = false) (early : f.kind.queue ≠ .routine)
    (room : s.link.hasRoom f.kind.queue = true) : s.place f = ({ s with link := s.linkAfter f }, true) := by
  have placed := State.place_placed on (.inl early) room
  rw [placed]
  exact congrArg (·, true) (State.tryStart_beside (s := { s with link := s.link.push f }) rfl rfl rfl)

section
variable (on : s.offline = false)

section
variable {before behind : List TicketEntry} {e : TicketEntry} (queue : s.tickets.queue = before ++ e :: behind)
  (older : ∀ b ∈ before, b.copyPlaced = true) (waits : e.copyPlaced = false)
include on queue older waits

theorem State.placeOldestCopy_placed (room : s.link.bulk.frames.length < 16) : s.placeOldestCopy = { s with
    link := s.linkAfter (ticketCopyFrame e.ticket)
    tickets := { s.tickets with queue := before ++ { e with copyPlaced := true } :: behind } } := by
  have noneWaits : ∀ b ∈ before, (!b.copyPlaced) = false := fun b mem => by simp [older b mem]
  have placed : s.place (ticketCopyFrame e.ticket) = _ :=
    State.place_links on (show QueueName.bulk ≠ .routine by decide) (decide_eq_true room)
  have found := find_append (p := fun e => !e.copyPlaced) (e := e) (behind := behind) noneWaits (by simp [waits])
  have changed := changeFirst_append (p := fun e => !e.copyPlaced) (fun e => { e with copyPlaced := true })
    (e := e) (behind := behind) noneWaits (by simp [waits])
  simp only [State.placeOldestCopy, queue, found, placed, changed, if_true]

theorem State.placeOldestCopy_full (full : 16 ≤ s.link.bulk.frames.length) : s.placeOldestCopy = s := by
  have noneWaits : ∀ b ∈ before, (!b.copyPlaced) = false := fun b mem => by simp [older b mem]
  have refused : s.place (ticketCopyFrame e.ticket) = (s, false) :=
    State.place_full on (decide_eq_false (Nat.not_lt.2 full))
  have found := find_append (p := fun e => !e.copyPlaced) (e := e) (behind := behind) noneWaits (by simp [waits])
  simp only [State.placeOldestCopy, queue, found, refused]
  rfl

end

/-- A record at the tail of the queue as QUEUED, its copy not placed (R131, R133). -/
def State.queues (s : State) (t : TicketRecord) : State :=
  { s with tickets := { s.tickets with queue := s.tickets.queue ++ [{ ticket := t }] } }

include on in
/-- What a record takes with it into the queue (R131, R134, R139): its copy is placed where no older one waits and the BULK
queue has room. -/
theorem State.enterQueue_eq (t : TicketRecord) :
    let copied := (∀ e ∈ s.tickets.queue, e.copyPlaced = true) ∧ s.link.bulk.frames.length < 16
    s.enterQueue t = { s with
      link := if copied then s.linkAfter (ticketCopyFrame t) else s.link
      tickets := { s.tickets with
        queue := s.tickets.queue ++ [{ ticket := t, printState := .queued, copyPlaced := decide copied }] } } := by
  intro copied
  by_cases older : ∀ e ∈ s.tickets.queue, e.copyPlaced = true
  · have tries : s.enterQueue t = (s.queues t).placeOldestCopy := if_pos (by simpa using older)
    by_cases room : s.link.bulk.frames.length < 16
    · rw [tries, State.placeOldestCopy_placed (s := s.queues t) on rfl older rfl room,
        State.linkAfter_beside (s := s) (t := s.queues t) _ rfl rfl rfl,
        if_pos (show copied from ⟨older, room⟩), decide_eq_true (show copied from ⟨older, room⟩)]
      rfl
    · rw [tries, State.placeOldestCopy_full (s := s.queues t) on rfl older rfl (Nat.not_lt.1 room),
        if_neg (fun h : copied => room h.2), decide_eq_false (fun h : copied => room h.2)]
      rfl
  · have waits : s.enterQueue t = s.queues t := if_neg (by simpa using older)
    rw [waits, if_neg (fun h : copied => older h.1), decide_eq_false (fun h : copied => older h.1)]
    rfl

end

end

section
variable {s : State}

theorem State.tryPrint_waits (h : s.tickets.printer ≠ .ready ∨ s.tickets.isPrinting = true) : s.tryPrint = s := by
  refine if_neg ?_
  rcases h with h | h <;> simp [h]

theorem State.tryPrint_prints {before behind : List TicketEntry} {e : TicketEntry} (ready : s.tickets.printer = .ready)
    (idle : s.tickets.isPrinting = false) (queue : s.tickets.queue = before ++ e :: behind)
    (none : ∀ b ∈ before, b.printState ≠ .queued) (first : e.printState = .queued) : s.tryPrint = { s with
      tickets := { s.tickets with
        queue := before ++ { e with printState := .printing } :: behind, answerLimit := some s.cfg.printerLimit }
      lines := { s.lines with printer := some (.print e.ticket) } } := by
  have noneQueued : ∀ b ∈ before, b.isQueued = false := fun b mem => by simpa [TicketEntry.isQueued] using none b mem
  have queued : e.isQueued = true := by simp [TicketEntry.isQueued, first]
  rw [State.tryPrint, if_pos (by simp [ready, idle])]
  simp only [queue, find_append noneQueued queued, changeFirst_append _ noneQueued queued]
  rfl

theorem State.reprint_refused (h : s.tickets.last = none ∨ 4 ≤ s.tickets.placesTaken) : s.reprint = (s, .refused) := by
  cases last : s.tickets.last with
  | none => simp only [State.reprint, last]
  | some t =>
    simp only [State.reprint, last]
    exact if_pos (h.resolve_left (by simp [last]))

theorem State.reprint_queues {t : TicketRecord} (last : s.tickets.last = some t) (room : s.tickets.placesTaken < 4) :
    s.reprint = ((s.enterQueue t.asReprint).tryPrint, .done) := by
  simp only [State.reprint, last]
  exact if_neg (Nat.not_le.2 room)

end

theorem exec_reprint {s : State} {target : Byte} {argument : List Byte} (takes : s.laneTakes = true)
    (own : target.toNat = s.own.val) : let t := s.took (.reprint target argument)
    exec (.reprint target argument) s = .next (t.reprint.1.reportCommand .reprint t.reprint.2) := by
  show execReprint target argument s = _
  rw [execReprint, State.whenTarget_own _ (by simpa using takes) (by simpa using own)]

theorem State.laneTakes_on {s : State} (takes : s.laneTakes = true) : s.offline = false := by
  simp only [State.laneTakes, Bool.and_eq_true, Bool.not_eq_true'] at takes
  exact takes.2

/-- Settles O42: each command by the lane state and by the answer of the block that carries it out. -/
theorem officeCommandsPassedOnAreCarriedOut : Obligations.OfficeCommandsPassedOnAreCarriedOut := by
  intro s target argument takes own reported i replaced
  have on : s.offline = false := State.laneTakes_on takes
  refine ⟨fun c given inbound => ⟨fun weighing free => ?_, fun assist closed => ⟨fun rate rated => ?_, fun shut => ?_⟩⟩,
    fun idleOrAssist => ⟨?_, fun e given => ?_⟩, fun refused => ?_, fun t last room => ?_,
    fun token weight time decoded assist unmatched captured => ?_⟩
  · exact (exec_category takes own given).trans
      (congrArg _ (State.takeCategory_weighing (s := s.took i) inbound weighing free))
  · exact (exec_category takes own given).trans
      (congrArg _ ((State.takeCategory_reopens (s := s.took i) inbound assist closed).trans
        (State.reopenCategory_rated (s := s.took i) rated)))
  · exact (exec_category takes own given).trans
      (congrArg _ ((State.takeCategory_reopens (s := s.took i) inbound assist closed).trans
        (State.reopenCategory_closed (s := s.took i) shut)))
  · exact (exec_zero takes own).trans (congrArg _ (if_pos (s.idleOrAssist_iff.2 idleOrAssist)))
  · intro result
    have taken := s.idleOrAssist_iff.2 idleOrAssist
    refine ⟨(exec_raise takes own given taken).trans ?_, (exec_lower takes own given taken).trans ?_⟩
    · rw [State.barrierAnswer_raise, State.took_barrier]
      rfl
    · rw [State.barrierAnswer_lower, State.took_barrier]
      rfl
  · rw [exec_reprint takes own, State.reprint_refused (s := s.took _) refused]
    rfl
  · intro k r copied queue queued
    have enters : (s.took k).enterQueue t.asReprint = queued := by
      rw [State.enterQueue_eq (s := s.took k) on, State.linkAfter_beside (s := s) (t := s.took k) _ rfl rfl rfl]
      rfl
    have prints {u : State} (h : queued.tryPrint = u) : exec k s = .next (reported u .reprint .done) := by
      rw [exec_reprint takes own, State.reprint_queues (s := s.took k) last room, enters, h]
      rfl
    have samePrinting : queued.tickets.isPrinting = s.tickets.isPrinting := by
      simp [queued, queue, TicketState.isPrinting]
    refine ⟨fun h => prints (State.tryPrint_waits (s := queued) ?_), fun before e behind ready idle parts none first =>
      prints (State.tryPrint_prints (s := queued) ready (samePrinting.trans idle) parts none first)⟩
    rwa [samePrinting]
  · intro k lane answered found closing
    have again : ((s.took k).takesAgain token).keepLookup (s.visits.find token) = answered lane.record := by
      rw [State.takesAgain_eq]
      rfl
    have holdsToken := (s.took k).takesAgain_token token
    have sameVisits := (s.took k).takesAgain_visits token
    have goes {t : State} (h : ((s.took k).recordCommand .token .done).lookupAgain token = t) : exec k s = .next t :=
      (exec_token takes own decoded).trans
        (congrArg _ ((State.takeToken_unmatched (s := s.took k) token assist unmatched).trans h))
    have finds {v : VisitRecord} (holds : s.visits.find token = some v) :
        ((s.took k).takesAgain token).doLookup = (answered lane.record).visitFound v := by
      rw [State.doLookup_found holdsToken (by rw [sameVisits]; exact holds), sameVisits]
      exact congrArg (State.visitFound · v) again
    have misses (absent : s.visits.find token = none) :
        ((s.took k).takesAgain token).doLookup = (answered lane.record).visitAbsent := by
      rw [State.doLookup_absent holdsToken (by rw [sameVisits]; exact absent), sameVisits]
      exact congrArg State.visitAbsent again
    refine ⟨fun v holds kind => ⟨fun stands => goes (State.lookupAgain_asks token ((finds holds).trans ?_)),
        fun fresh => goes (State.lookupAgain_asks token ((finds holds).trans ?_))⟩,
      fun v tare holds kind tared => ⟨fun near => goes (State.lookupAgain_asks token ((finds holds).trans ?_)),
        fun apart => goes (State.lookupAgain_enters token ((finds holds).trans ?_) ?_)⟩,
      fun absent => ⟨fun joined => goes (State.lookupAgain_enters token ((misses absent).trans ?_) ?_),
        fun joining => goes (State.lookupAgain_enters token ((misses absent).trans ?_) ?_)⟩⟩
    · exact State.visitFound_stands (s := answered lane.record) kind stands
    · exact State.visitFound_forms (s := answered lane.record) captured kind fresh
    · exact State.visitFound_passes (s := answered lane.record) captured kind tared near
    · exact State.visitFound_differs (s := answered lane.record) captured kind tared apart
    · exact State.enterAssist_asked _ rfl
    · exact State.visitAbsent_assist (s := answered lane.record) joined
    · exact State.enterAssist_asked _ rfl
    · exact State.visitAbsent_weighs (s := answered lane.record) joining
        (show s.lane.state ≠ .weighing by rw [assist]; decide)
    · rw [State.report_lane]

end Sys2Proof.Machine
end

section
/-! PROOFS. The lane frame slot: the requests that go through it, the queue it hands its frame to, and the number of a new
claim (R67, R91, R92, R102 to R105, R158). -/

namespace Sys2Proof.Machine

/-! ### The lane's requests and the departure (R61, R102 to R105) -/

section
variable {s : State} (takes : s.laneTakes = true)
include takes

theorem exec_claimRequest (c : Claim) : let t := s.took (.claimRequest c)
    exec (.claimRequest c) s = .next ((State.copyClaimNumber
      { t with visits := { s.visits with sequence := s.claimNumber.sequence } } s.claimNumber).putSlot
        (.openFrame ⟨s.claimNumber, c⟩) true) := by
  show execClaimRequest c s = _
  rw [execClaimRequest, State.whenLane_takes _ (by simpa using takes)]
  rfl

theorem exec_reclaim (f : LaneFrame) : exec (.reclaim f) s = .next ((s.took (.reclaim f)).putSlot f false) := by
  show execReclaim f s = _
  rw [execReclaim, State.whenLane_takes _ (by simpa using takes)]

theorem exec_closeRequest (n : VisitNumber) : exec (.closeRequest n) s =
    .next ((s.took (.closeRequest n)).putSlot (.closeFrame n) false) := by
  show execCloseRequest n s = _
  rw [execCloseRequest, State.whenLane_takes _ (by simpa using takes)]

theorem exec_lookup (token : Token) :
    exec (.lookup token) s = .next { s with answers := { s.answers with lookup := some (s.visits.find token) } } := by
  show execLookup token s = _
  rw [execLookup, State.whenLane_takes _ takes]

end

theorem exec_frameWithdraw {s : State} (live : s.live = true) :
    exec .frameWithdraw s = .next { s.took .frameWithdraw with visits := { s.visits with slot := none } } := by
  show execFrameWithdraw s = _
  rw [execFrameWithdraw, State.whenLive_live _ (by simpa using live)]
  rfl

theorem exec_visitQueueDeparture_slot {s : State} {f : SlotFrame} (live : s.live = true)
    (slot : s.visits.slot = some f) : exec .visitQueueDeparture s = .next (s.took .visitQueueDeparture).placeSlot := by
  show execVisitQueueDeparture s = _
  rw [execVisitQueueDeparture, State.whenLive_live _ (by simpa using live)]
  simp only [State.took_visits, slot]

theorem exec_visitQueueDeparture_nothing {s : State} (live : s.live = true) (slot : s.visits.slot = none)
    (waiting : s.visits.cursor.waiting = none) :
    exec .visitQueueDeparture s = .next (s.took .visitQueueDeparture) := by
  show execVisitQueueDeparture s = _
  rw [execVisitQueueDeparture, State.whenLive_live _ (by simpa using live)]
  simp only [State.took_visits, slot, waiting]

/-! ### The slot handed on (R102, R103, R152, R158) -/

theorem laneFrameOf_queue (f : LaneFrame) : (laneFrameOf f).kind.queue = .visit := by
  cases f <;> rfl

section
variable {s : State} {f : SlotFrame} (on : s.offline = false) (slot : s.visits.slot = some f)
include on slot

/-- Before JOINING too the frame waits in its queue (R158). -/
theorem State.placeSlot_placed (room : s.link.visit.frames.length < 8) : s.placeSlot = { s with
    link := s.linkAfter (laneFrameOf f.frame)
    visits := { s.visits with
      slot := none, sequence := if f.isNew then nextSequence s.visits.sequence else s.visits.sequence }
    posted := s.posted ++ [.event (.laneFramePlaced (placedKindOf f.frame) f.frame.number)] } := by
  have queue := laneFrameOf_queue f.frame
  have placed : s.place (laneFrameOf f.frame) = _ := State.place_links on (by rw [queue]; decide)
    (by rw [queue]; exact decide_eq_true room)
  simp only [State.placeSlot, slot, placed, if_true, State.post]

theorem State.placeSlot_full (full : 8 ≤ s.link.visit.frames.length) : s.placeSlot = s := by
  have queue := laneFrameOf_queue f.frame
  have refused : s.place (laneFrameOf f.frame) = (s, false) :=
    State.place_full on (by rw [queue]; exact decide_eq_false (Nat.not_lt.2 full))
  simp only [State.placeSlot, slot, refused]
  rfl

end

/-- The state of an instruction that has put a frame into the slot: a lane and a sequence may have changed with it. -/
def State.slots (s : State) (i : Instr) (f : SlotFrame) (sequence : Nat) (lane : Lane) : State :=
  { s.took i with visits := { s.visits with slot := some f, sequence := sequence }, lane := lane }

theorem State.linkAfter_laneFrame (s : State) (f : LaneFrame) : s.linkAfter (laneFrameOf f) = (State.tryStart { s with
    link := { s.link with
      visit := { s.link.visit with frames := s.link.visit.frames ++ [laneFrameOf f] } } }).link := by
  cases f <;> rfl

/-- A frame in the slot is handed on where the VISIT queue has room, and otherwise stays there (R102, R103). -/
theorem slots_handed {s : State} {i : Instr} {f : LaneFrame} {sequence : Nat} {isNew : Bool} {lane : Lane}
    (on : s.offline = false) (ran : exec i s = .next (s.slots i ⟨f, isNew⟩ sequence lane).placeSlot) :
    (s.link.visit.frames.length < 8 → exec i s = .next { s.took i with
      link := (State.tryStart { s with link := { s.link with
        visit := { s.link.visit with frames := s.link.visit.frames ++ [laneFrameOf f] } } }).link
      visits := { s.visits with slot := none, sequence := if isNew then nextSequence sequence else sequence }
      lane := lane
      posted := (s.took i).posted ++ [.event (.laneFramePlaced (placedKindOf f) f.number)] }) ∧
    (8 ≤ s.link.visit.frames.length → exec i s = .next (s.slots i ⟨f, isNew⟩ sequence lane)) := by
  rw [ran]
  refine ⟨fun room => ?_, fun full => ?_⟩
  · rw [State.placeSlot_placed (s := s.slots i ⟨f, isNew⟩ sequence lane) on rfl room,
      State.linkAfter_beside (s := s) (t := s.slots i ⟨f, isNew⟩ sequence lane) _ rfl rfl rfl,
      State.linkAfter_laneFrame]
    rfl
  · rw [State.placeSlot_full (s := s.slots i ⟨f, isNew⟩ sequence lane) on rfl full]

theorem State.copyClaimNumber_eq (s : State) (n : VisitNumber) : s.copyClaimNumber n = { s with
    lane := if s.lane.state = .weighing ∧ s.lane.asked = some .claim then
      { s.lane with record := { s.lane.record with visitRef := some n } } else s.lane } := by
  unfold State.copyClaimNumber
  split <;> rfl

theorem exec_visitQueueDeparture_slots {s : State} {f : LaneFrame} {isNew : Bool} (live : s.live = true)
    (slot : s.visits.slot = some ⟨f, isNew⟩) : exec .visitQueueDeparture s =
      .next (s.slots .visitQueueDeparture ⟨f, isNew⟩ s.visits.sequence s.lane).placeSlot := by
  rw [exec_visitQueueDeparture_slot live slot, State.slots, ← slot]
  rfl

/-! ### The number of a new claim (R91, R92) -/

theorem iterate_nextSequence {n : Nat} (range : 1 ≤ n ∧ n ≤ 4095) (k : Nat) :
    nextSequence^[k] n = (n - 1 + k) % 4095 + 1 := by
  induction k with
  | zero => simp only [Function.iterate_zero, id]; omega
  | succ k ih => rw [Function.iterate_succ_apply', ih, nextSequence]; split <;> omega

/-- Where the search ends on a number of the table, every number it passed is one too. -/
theorem VisitState.freeSequence_taken (v : VisitState) (own : Station) (fuel : Nat) :
    ∀ n, v.hasNumber ⟨own, v.epoch, v.freeSequence own fuel n⟩ = true →
      ∀ k ≤ fuel, v.hasNumber ⟨own, v.epoch, nextSequence^[k] n⟩ = true := by
  induction fuel with
  | zero => intro n taken k le; obtain rfl := Nat.le_zero.1 le; exact taken
  | succ fuel ih =>
    intro n taken k le
    rw [VisitState.freeSequence] at taken
    split at taken
    next first =>
      cases k with
      | zero => exact first
      | succ k => exact ih _ taken k (Nat.le_of_succ_le_succ le)
    next free => exact absurd taken free

/-- The numbers the search for a free sequence may try: one more than the table holds visits. -/
def VisitState.triedNumbers (v : VisitState) (own : Station) : List VisitNumber :=
  (List.range (v.table.length + 1)).map fun k => ⟨own, v.epoch, nextSequence^[k] v.sequence⟩

theorem VisitState.length_triedNumbers (v : VisitState) (own : Station) :
    (v.triedNumbers own).length = v.table.length + 1 := by
  simp [VisitState.triedNumbers]

theorem VisitState.nodup_triedNumbers {v : VisitState} (inv : v.Inv) (own : Station) : (v.triedNumbers own).Nodup := by
  refine List.Nodup.map_on (fun i hi j hj same => ?_) List.nodup_range
  have few := inv.count
  have same : nextSequence^[i] v.sequence = nextSequence^[j] v.sequence := congrArg VisitNumber.sequence same
  rw [iterate_nextSequence inv.sequence, iterate_nextSequence inv.sequence] at same
  rw [List.mem_range] at hi hj
  omega

/-- The table holds fewer numbers than the search tries, and those it tries differ (R92, R93). -/
theorem VisitState.freeSequence_fresh {v : VisitState} (inv : v.Inv) (own : Station) :
    v.hasNumber ⟨own, v.epoch, v.freeSequence own v.table.length v.sequence⟩ = false := by
  refine Bool.eq_false_iff.2 fun taken => ?_
  have found : v.triedNumbers own ⊆ v.table.map (·.number) := by
    intro n mem
    obtain ⟨k, lt, rfl⟩ := List.mem_map.1 mem
    exact (v.hasNumber_iff _).1
      (v.freeSequence_taken own _ _ taken k (Nat.le_of_lt_succ (List.mem_range.1 lt)))
  have more := ((VisitState.nodup_triedNumbers inv own).subperm found).length_le
  rw [v.length_triedNumbers, List.length_map] at more
  omega

theorem VisitState.freeSequence_free {v : VisitState} {own : Station} {n : Nat}
    (free : v.hasNumber ⟨own, v.epoch, n⟩ = false) (fuel : Nat) : v.freeSequence own fuel n = n := by
  cases fuel with
  | zero => rfl
  | succ fuel => simp [VisitState.freeSequence, free]

theorem VisitState.hasNumber_eq_false_iff (v : VisitState) (n : VisitNumber) :
    v.hasNumber n = false ↔ ∀ r ∈ v.table, r.number ≠ n := by
  simp [VisitState.hasNumber]

/-- Settles O45: the requests through the slot handed on, the withdrawal and the lookup, and the number of a new claim by
the pigeonhole of its search. -/
theorem laneFramesGoThroughTheSlot : Obligations.LaneFramesGoThroughTheSlot := by
  unfold Obligations.LaneFramesGoThroughTheSlot
  refine ⟨fun s c f n token => ⟨fun takes => ?_, fun refused => ?_, fun live on => ⟨fun slot => ?_, fun slot => ?_⟩⟩,
    fun s live => ⟨exec_frameWithdraw live, exec_visitQueueDeparture_nothing live⟩, fun s token => ?_,
    fun v n => ⟨rfl, rfl⟩, fun s inv => ?_⟩
  · have on := State.laneTakes_on takes
    refine ⟨slots_handed (isNew := true) on ?_, slots_handed (isNew := false) on (exec_reclaim takes f),
      slots_handed (isNew := false) on (exec_closeRequest takes n), exec_lookup takes token⟩
    rw [exec_claimRequest takes, State.copyClaimNumber_eq]
    rfl
  · have no (k : Instr) : (s.took k).laneTakes = false := by simpa using refused
    exact ⟨congrArg Host.Outcome.next (State.whenLane_not _ (no _)),
      congrArg Host.Outcome.next (State.whenLane_not _ (no _)),
      congrArg Host.Outcome.next (State.whenLane_not _ (no _)),
      congrArg Host.Outcome.next (State.whenLane_not _ refused)⟩
  · exact slots_handed (isNew := false) on (exec_visitQueueDeparture_slots live slot)
  · exact slots_handed (isNew := true) on (exec_visitQueueDeparture_slots live slot)
  · refine ⟨fun v found => ⟨List.mem_of_find?_eq_some found, ?_⟩, fun absent v mem => ?_⟩
    · simpa using List.find?_some found
    · simpa using List.find?_eq_none.1 absent v mem
  · obtain ⟨low, high⟩ := s.visits.freeSequence_range s.own s.visits.table.length _ inv.sequence
    exact ⟨rfl, rfl, low, high, (s.visits.hasNumber_eq_false_iff _).1 (VisitState.freeSequence_fresh inv s.own),
      fun free => VisitState.freeSequence_free ((s.visits.hasNumber_eq_false_iff _).2 free) _⟩

end Sys2Proof.Machine
end

section
/-! PROOFS. A frame heard to its end: the command a LANE-COMMAND carries, and the tests in their order (R80, R142, R149 to
R151, R158). -/

namespace Sys2Proof.Machine

/-! ### The command of a LANE-COMMAND (11.3) -/

theorem field_argument {argument : List Byte} (eight : argument.length = 8) (target code : Byte) :
    field (target :: code :: argument) 2 8 = argument :=
  List.take_of_length_le eight.le

theorem laneCommandEvent_unknown {code : Byte} (unknown : code.toNat = 0 ∨ 11 < code.toNat) (target : Byte)
    (argument : List Byte) : laneCommandEvent (target :: code :: argument) = .unknownCommand target code := by
  have byte : byteAt (target :: code :: argument) 1 = code := rfl
  obtain zero | above := unknown
  · rw [laneCommandEvent, byte, zero]
    rfl
  · obtain ⟨n, eq⟩ := Nat.exists_eq_add_of_le' above
    rw [laneCommandEvent, byte, eq]
    rfl

theorem decodeCategory_iff (b : Byte) (c : Category) : decodeCategory b = some c ↔ b.toNat = c.val := by
  unfold decodeCategory
  split
  next small => simp [Fin.ext_iff]
  next large => simp; omega

theorem decodeEnd_a_iff (b : Byte) : decodeEnd b = some .a ↔ b = 0#8 := by
  unfold decodeEnd
  split <;> simp_all

theorem decodeEnd_b_iff (b : Byte) : decodeEnd b = some .b ↔ b = 1#8 := by
  unfold decodeEnd
  split <;> simp_all

/-! ### The tests of a heard frame (R149) -/

theorem frameSpoiled_iff (f : HeardFrame) : frameSpoiled f = true ↔
    f.ending = .cutOff ∨ 32 < f.length.toNat ∨ f.check ≠ crc16 (checkedBytes f.ident f.length f.payload) := by
  simp only [frameSpoiled, Bool.or_eq_true, beq_iff_eq, decide_eq_true_eq, bne_iff_ne, or_assoc]
  rfl

theorem frameFits_iff (f : HeardFrame) (own : Station) (k : FrameKind) : frameFits f own k = true ↔
    heardPriority f = k.queue.priority ∧ (k.officeOnly = true → heardSource f = 0) ∧ heardSource f ≠ own ∧
      f.length.toNat = k.length ∧ f.payload.length = k.length := by
  simp only [frameFits, Bool.and_eq_true, beq_iff_eq, bne_iff_ne, Bool.not_eq_true', Bool.and_eq_false_imp,
    bne_eq_false_iff_eq, and_assoc]

section
variable {f : HeardFrame} (own : Station) (ended : f.ending ≠ .aborted)
include ended

theorem judgeFrame_spoiled (spoiled : frameSpoiled f = true) : judgeFrame f own = .badCheck := by
  rw [judgeFrame, if_neg ended, if_pos spoiled]

variable (sound : ¬ frameSpoiled f = true)
include sound

theorem judgeFrame_unknown (unknown : heardKind f = none) : judgeFrame f own = .malformed := by
  rw [judgeFrame, if_neg ended, if_neg sound, unknown]

theorem judgeFrame_known {k : FrameKind} (known : heardKind f = some k) :
    judgeFrame f own = if frameFits f own k then .good k else .malformed := by
  rw [judgeFrame, if_neg ended, if_neg sound, known]

end

/-! ### What the station makes of it (R150, R151, R158) -/

theorem exec_frameEnd_unheard {s : State} (live : s.live = true) (unheard : s.link.hearing = false) (f : HeardFrame) :
    exec (.frameEnd f) s = .next s := by
  show execFrameEnd f s = _
  rw [execFrameEnd, State.whenLive_live _ live]
  simp [unheard]

/-- The state whose heard frame has ended: it waits for the next start. -/
def State.heardOut (s : State) : State := { s with link := { s.link with hearing := false } }

theorem exec_frameEnd_heard {s : State} (live : s.live = true) (heard : s.link.hearing = true) (f : HeardFrame) :
    exec (.frameEnd f) s = .next (s.heardOut.takeHeard f) := by
  show execFrameEnd f s = _
  rw [execFrameEnd, State.whenLive_live _ live, if_pos heard]
  rfl

section
variable {s : State} {f : HeardFrame}

theorem State.takeHeard_uncounted (judged : judgeFrame f s.own = .uncounted) : s.takeHeard f = s := by
  rw [State.takeHeard, judged]

theorem State.takeHeard_badCheck (judged : judgeFrame f s.own = .badCheck) :
    s.takeHeard f = { s with link := { s.link with badCheck := satSucc s.link.badCheck } } := by
  rw [State.takeHeard, judged]

theorem State.takeHeard_malformed (judged : judgeFrame f s.own = .malformed) : s.takeHeard f = s.countMalformed := by
  rw [State.takeHeard, judged]

theorem State.takeHeard_good {k : FrameKind} (judged : judgeFrame f s.own = .good k) :
    s.takeHeard f = s.handFrame k f := by
  rw [State.takeHeard, judged]

end

theorem State.handFrame_offline {s : State} (off : s.offline = true) (k : FrameKind) (f : HeardFrame) :
    s.handFrame k f = s := if_pos off

theorem State.handFrame_on {s : State} (on : s.offline = false) (k : FrameKind) (f : HeardFrame) : s.handFrame k f =
    { s with posted := s.posted ++ [.event (.peerHeard (heardSource f))] ++ ownerEvent k (heardSource f) f.payload } := by
  rw [List.append_assoc]
  exact if_neg (by simp [on])

/-- Settles O52: the codes of a LANE-COMMAND one by one, and a heard frame by the verdict of its tests. -/
theorem heardFrameIsTestedInOrder : Obligations.HeardFrameIsTestedInOrder := by
  unfold Obligations.HeardFrameIsTestedInOrder
  refine ⟨fun target code argument eight => ⟨?_, fun unknown => ?_⟩, fun b rest => ⟨decodeCategory_iff b,
    decodeEnd_a_iff b, decodeEnd_b_iff b⟩, fun s f live => ?_⟩
  · simp only [laneCommandEvent, field_argument eight]
    rfl
  · exact laneCommandEvent_unknown (unknown.imp_left (congrArg BitVec.toNat)) target argument
  intro source spoiled fits quiet handed
  refine ⟨fun unheard => exec_frameEnd_unheard live unheard f, fun heard => ?_⟩
  rw [exec_frameEnd_heard live heard]
  refine ⟨fun aborted => ?_, fun ended bad => ?_, fun ended good => ?_⟩
  · rw [State.takeHeard_uncounted (s := s.heardOut) (if_pos aborted)]
    rfl
  · rw [State.takeHeard_badCheck (s := s.heardOut) (judgeFrame_spoiled _ ended ((frameSpoiled_iff f).2 bad))]
    rfl
  have sound : ¬ frameSpoiled f = true := fun h => good ((frameSpoiled_iff f).1 h)
  refine ⟨fun k known misfit => ?_, fun fifteen => ?_, fun k known fit => ?_⟩
  · rw [State.takeHeard_malformed (s := s.heardOut) ((judgeFrame_known _ ended sound known).trans
      (if_neg fun h => misfit ((frameFits_iff f s.own k).1 h)))]
    rfl
  · have unknown : heardKind f = none := by rw [heardKind, fifteen]; rfl
    rw [State.takeHeard_malformed (s := s.heardOut) (judgeFrame_unknown _ ended sound unknown)]
    rfl
  · rw [State.takeHeard_good (s := s.heardOut) ((judgeFrame_known _ ended sound known).trans
      (if_pos ((frameFits_iff f s.own k).2 fit)))]
    refine ⟨fun off => congrArg Host.Outcome.next (State.handFrame_offline (s := s.heardOut) off k f), fun on =>
      (congrArg Host.Outcome.next (State.handFrame_on (s := s.heardOut) on k f)).trans ?_⟩
    cases k <;> rfl

end Sys2Proof.Machine
end

section
/-! PROOFS. The completion of the boot count commit, and the read of the configuration memory (R91, R159, R161, R171, R186,
R188). -/

namespace Sys2Proof.Machine

theorem exec_bootCountCommitDone {s : State} {n : Nat} {rest : List Commit}
    (running : s.retained.commits = .bootCount n :: rest) : exec .bootCountCommitDone s = .next { s with
      retained := { s.retained with bootCount := n, commits := rest }
      visits := { s.visits with epoch := n % 256 }
      peers := { s.peers with table := s.peers.table.set s.own { s.peers.table[s.own] with bootCount := some n } }
      loader := { s.loader with phase := .reading, image := [], byteLimit := some 10 } } := by
  show execBootCountCommitDone s = _
  simp only [execBootCountCommitDone, Retained.finished, Retained.complete, running, List.head?_cons, List.drop_one,
    List.tail_cons]
  rfl

/-- The whole image agrees with its check where its last two bytes are the check of the 113 before them (R188). -/
theorem imageCheckAgrees_iff {image : List Byte} (whole : image.length = 115) :
    imageCheckAgrees image = true ↔ image.drop 113 = checkBytes (crc16 (image.take 113)) := by
  have last : field image 0x71 2 = image.drop 113 := List.take_of_length_le (by rw [List.length_drop, whole])
  simp only [imageCheckAgrees, whole, last, Bool.and_eq_true, beq_iff_eq]
  exact and_iff_right rfl

/-- The state that has kept a byte of the image, its limit running again (R188). -/
def State.keepsImage (s : State) (image : List Byte) : State :=
  { s with loader := { s.loader with image := image, byteLimit := some configByteLimit } }

section
variable {s : State} (reading : s.loader.phase = .reading)
include reading

theorem exec_configByte_part {b : Byte} (part : (s.loader.image ++ [b]).length ≠ 115) :
    exec (.configByte b) s = .next (s.keepsImage (s.loader.image ++ [b])) := by
  show execConfigByte b s = _
  rw [execConfigByte, if_pos reading]
  exact congrArg Host.Outcome.next (if_neg part)

theorem exec_configByte_last {b : Byte} (whole : (s.loader.image ++ [b]).length = 115) : exec (.configByte b) s =
    .next ((s.keepsImage (s.loader.image ++ [b])).settleImage (s.loader.image ++ [b])) := by
  show execConfigByte b s = _
  rw [execConfigByte, if_pos reading]
  exact congrArg Host.Outcome.next (if_pos whole)

theorem exec_configByteTimeout : exec .configByteTimeout s = .next (s.settle {} true) := by
  show execConfigByteTimeout s = _
  rw [execConfigByteTimeout, if_pos reading]

end

/-- Settles O6: the length of the image, and its check once it is whole, decide what a byte leads to. -/
theorem bootCountAndConfigurationRead : Obligations.BootCountAndConfigurationRead := by
  refine ⟨fun s n rest running => exec_bootCountCommitDone running, fun s b reading => ?_⟩
  intro image inForce
  have settled (cfg : Settings) (byDefault : Bool) : (s.keepsImage image).settle cfg byDefault =
      inForce image cfg byDefault := rfl
  refine ⟨fun part => exec_configByte_part reading part, fun whole agrees => ?_, fun whole differs => ?_,
    exec_configByteTimeout reading⟩
  · rw [exec_configByte_last reading whole, State.settleImage, if_pos ((imageCheckAgrees_iff whole).2 agrees), settled]
  · rw [exec_configByte_last reading whole, State.settleImage,
      if_neg fun h => differs ((imageCheckAgrees_iff whole).1 h), settled]

end Sys2Proof.Machine
end

section
/-! PROOFS. The visit frames say what they carry (R90, R94, R190): numbers, tokens, times and whole records as bytes, and
read back from them. -/

namespace Sys2Proof

/-! ### Numbers as bytes (R190) -/

@[simp] theorem length_beBytes (k v : Nat) : (beBytes k v).length = k := by
  induction k with
  | zero => rfl
  | succ k ih => rw [beBytes, List.length_cons, ih]

theorem fromBe_cons (b : Byte) (bs : List Byte) : fromBe (b :: bs) = b.toNat * 256 ^ bs.length + fromBe bs := by
  induction bs using List.reverseRecOn with
  | nil => simp [fromBe]
  | append_singleton bs c ih =>
    have last (l : List Byte) : fromBe (l ++ [c]) = fromBe l * 256 + c.toNat := by simp [fromBe]
    rw [← List.cons_append, last, last, ih, List.length_append, List.length_singleton, pow_succ]
    ring

theorem fromBe_beBytes (k v : Nat) : fromBe (beBytes k v) = v % 256 ^ k := by
  induction k with
  | zero => simp [beBytes, fromBe, Nat.mod_one]
  | succ k ih => rw [beBytes, fromBe_cons, ih, length_beBytes, BitVec.toNat_ofNat, Nat.mod_pow_succ (b := 256),
      Nat.add_comm, Nat.mul_comm]

theorem fromBe_beBytes_of_lt {k v : Nat} (fits : v < 256 ^ k) : fromBe (beBytes k v) = v := by
  rw [fromBe_beBytes, Nat.mod_eq_of_lt fits]

/-- The bytes of a number below the greatest of its length are not the absent value (R190). -/
theorem beBytes_ne_absent {k v : Nat} (below : v < fromBe (List.replicate k 0xFF#8)) :
    beBytes k v ≠ List.replicate k 0xFF#8 := by
  intro absent
  have fits : v < 256 ^ k := below.trans (by simpa using Machine.fromBe_lt (List.replicate k 0xFF#8))
  have same := fromBe_beBytes_of_lt fits
  rw [absent] at same
  omega

/-! ### Visit numbers (R90, R91) -/

theorem VisitNumber.valid_iff (n : VisitNumber) : n.valid = true ↔
    n.opener ≠ 0 ∧ n.epoch < 256 ∧ 1 ≤ n.sequence ∧ n.sequence ≤ 4095 := by
  simp [VisitNumber.valid, and_assoc]

@[simp] theorem length_visitNumberBytes (n : VisitNumber) : (visitNumberBytes n).length = 3 := length_beBytes 3 _

theorem decodeVisitNumber_bytes {n : VisitNumber} (valid : n.valid = true) :
    decodeVisitNumber (visitNumberBytes n) = some n := by
  obtain ⟨-, epoch, -, sequence⟩ := n.valid_iff.1 valid
  have opener := n.opener.isLt
  have spelt : fromBe (visitNumberBytes n) = n.opener.val * 2 ^ 20 + n.epoch * 2 ^ 12 + n.sequence :=
    fromBe_beBytes_of_lt (by omega)
  have openerRead : (n.opener.val * 2 ^ 20 + n.epoch * 2 ^ 12 + n.sequence) / 2 ^ 20 = n.opener.val := by omega
  have epochRead : (n.opener.val * 2 ^ 20 + n.epoch * 2 ^ 12 + n.sequence) / 2 ^ 12 % 256 = n.epoch := by omega
  have sequenceRead : (n.opener.val * 2 ^ 20 + n.epoch * 2 ^ 12 + n.sequence) % 2 ^ 12 = n.sequence := by omega
  have same : (⟨Fin.ofNat 16 n.opener.val, n.epoch, n.sequence⟩ : VisitNumber) = n :=
    congrArg (VisitNumber.mk · n.epoch n.sequence) (Fin.ofNat_val_eq_self n.opener)
  simp only [decodeVisitNumber, spelt, openerRead, epochRead, sequenceRead, same]
  exact if_pos ⟨length_visitNumberBytes n, valid⟩

/-! ### Tokens, times and tare copies (R59, R169, R190) -/

theorem tokenValid_iff (t : Token) : tokenValid t = true ↔
    1 ≤ t.length ∧ t.length ≤ 8 ∧ ∀ b ∈ t, tokenChar b = true := by
  simp [tokenValid, and_assoc]

theorem length_tokenBytes {t : Token} (valid : tokenValid t = true) : (tokenBytes (some t)).length = 8 := by
  obtain ⟨-, short, -⟩ := (tokenValid_iff t).1 valid
  rw [tokenBytes, Option.getD_some, List.length_append, List.length_replicate, Nat.add_sub_of_le short]

/-- The characters of a token are not 00h, which ends it. -/
theorem decodeToken_tokenBytes {t : Token} (valid : tokenValid t = true) : decodeToken (tokenBytes (some t)) = some t := by
  obtain ⟨-, -, inRange⟩ := (tokenValid_iff t).1 valid
  have chars : ∀ b ∈ t, (b != 0#8) = true := fun b mem =>
    bne_iff_ne.2 fun zero => absurd (zero ▸ inRange b mem) (by decide)
  have before : (tokenBytes (some t)).takeWhile (· != 0#8) = t := by
    simp [tokenBytes, List.takeWhile_append_of_pos chars]
  have behind : (tokenBytes (some t)).dropWhile (· != 0#8) = List.replicate (8 - t.length) 0#8 := by
    simp [tokenBytes, List.dropWhile_append_of_pos chars]
  rw [decodeToken, before, behind, if_pos ⟨length_tokenBytes valid, by simp, valid⟩]

@[simp] theorem length_timeBytes (t : Option DepotTime) : (timeBytes t).length = 5 := by
  cases t with
  | none => rfl
  | some t => simp [timeBytes]

theorem decodeTime_timeBytes {t : Option DepotTime} (valid : (t.map DepotTime.valid).getD true = true) :
    decodeTime (timeBytes t) = some t := by
  cases t with
  | none => rfl
  | some t =>
    obtain ⟨day, second⟩ : t.day < 65536 ∧ t.second < 86400 := by simpa [DepotTime.valid] using valid
    have dayField : field (timeBytes (some t)) 0 2 = beBytes 2 t.day := rfl
    have secondField : field (timeBytes (some t)) 2 3 = beBytes 3 t.second := rfl
    have dayRead : fromBe (beBytes 2 t.day) = t.day := fromBe_beBytes_of_lt day
    have secondRead : fromBe (beBytes 3 t.second) = t.second := fromBe_beBytes_of_lt (by omega)
    have set : timeBytes (some t) ≠ List.replicate 5 0xFF#8 := fun unset =>
      beBytes_ne_absent (second.trans (by decide)) (secondField.symm.trans (by rw [unset]; rfl))
    simp only [decodeTime, dayField, secondField, dayRead, secondRead]
    rw [if_neg set, if_pos ⟨length_timeBytes _, second⟩]

@[simp] theorem length_optBytes (k : Nat) (v : Option Nat) : (optBytes k v).length = k := by
  cases v <;> simp [optBytes]

theorem decodeTareCopy_optBytes {t : Option Nat} (valid : ∀ v, t = some v → v ≤ maxTare) :
    decodeTareCopy (optBytes 3 t) = t := by
  cases t with
  | none => rfl
  | some v =>
    have small : v ≤ 80000 := valid v rfl
    rw [decodeTareCopy, optBytes, if_neg (beBytes_ne_absent (small.trans_lt (by decide))),
      fromBe_beBytes_of_lt (by omega)]

/-! ### Records (R90, R94, 11.3) -/

/-- What R94 checks of a claim. -/
theorem Claim.valid_iff (c : Claim) : c.valid = true ↔ tokenValid c.token = true ∧ c.rate ≤ maxRate ∧
    (minCapture ≤ c.weight ∧ c.weight ≤ maxCapture) ∧ (c.time.map DepotTime.valid).getD true = true ∧
    (c.kind = .twoPass ∧ c.tare = none ∨ c.kind = .storedTare ∧ ∃ t, c.tare = some t ∧ t ≤ maxTare) := by
  cases hk : c.kind <;> cases ht : c.tare <;> simp [Claim.valid, hk, ht, and_assoc]

/-- The two bits of byte 11 that are read are those of the kind and of the manual token (log 28). -/
theorem flagByte_bits (k m : Bool) : (byteOf (bit k 7 + bit m 6)).getLsbD 7 = k ∧
    (byteOf (bit k 7 + bit m 6)).getLsbD 6 = m := by
  revert k m
  decide

theorem decodeCategory_byteOf (c : Category) : decodeCategory (byteOf c.val) = some c := by
  revert c
  decide

section
variable {number token rate weight time tare : List Byte} (flags category : Byte)
  (numberLength : number.length = 3) (tokenLength : token.length = 8) (rateLength : rate.length = 3)
  (weightLength : weight.length = 3) (timeLength : time.length = 5) (tareLength : tare.length = 3)
include numberLength tokenLength rateLength weightLength timeLength tareLength

/-- Where the parts of a record stand in its payload (11.3). -/
theorem recordParts :
    let payload := number ++ token ++ [flags, category] ++ rate ++ weight ++ time ++ tare
    payload.length = 27 ∧ field payload 0 3 = number ∧ field payload 3 8 = token ∧ byteAt payload 11 = flags ∧
      byteAt payload 12 = category ∧ field payload 13 3 = rate ∧ field payload 16 3 = weight ∧
      field payload 19 5 = time ∧ field payload 24 3 = tare := by
  intro payload
  simp [payload, field, byteAt, List.drop_append, List.take_of_length_le, List.drop_eq_nil_of_le,
    numberLength, tokenLength, rateLength, weightLength, timeLength, tareLength]

end

theorem VisitRecord.valid_iff (v : VisitRecord) : v.valid = true ↔ v.number.valid = true ∧ v.claim.valid = true :=
  Bool.and_eq_true_iff

theorem decodeVisitRecord_bytes {v : VisitRecord} (valid : v.valid = true) :
    decodeVisitRecord (visitRecordBytes v) = some v ∧ (visitRecordBytes v).length = 27 := by
  obtain ⟨numberValid, claimValid⟩ := v.valid_iff.1 valid
  obtain ⟨tokenValid, rateRange, ⟨-, weightRange⟩, timeValid, kindTare⟩ := v.claim.valid_iff.1 claimValid
  obtain ⟨length, number, token, flags, category, rate, weight, time, tare⟩ :=
    recordParts (byteOf (bit (v.claim.kind == .storedTare) 7 + bit v.claim.manual 6)) (byteOf v.claim.category.val)
      (length_visitNumberBytes v.number) (length_tokenBytes tokenValid) (length_beBytes 3 v.claim.rate)
      (length_beBytes 3 v.claim.weight) (length_timeBytes v.claim.time) (length_optBytes 3 v.claim.tare)
  rw [← visitRecordBytes] at length number token flags category rate weight time tare
  obtain ⟨kindBit, manualBit⟩ := flagByte_bits (v.claim.kind == .storedTare) v.claim.manual
  have rateRead : fromBe (beBytes 3 v.claim.rate) = v.claim.rate :=
    fromBe_beBytes_of_lt (rateRange.trans_lt (by decide))
  have weightRead : fromBe (beBytes 3 v.claim.weight) = v.claim.weight :=
    fromBe_beBytes_of_lt (weightRange.trans_lt (by decide))
  have kindRead : (if (v.claim.kind == .storedTare) = true then Kind.storedTare else .twoPass) = v.claim.kind := by
    cases v.claim.kind <;> rfl
  have tareRead : decodeTareCopy (optBytes 3 v.claim.tare) = v.claim.tare :=
    decodeTareCopy_optBytes fun t present => by
      obtain ⟨-, absent⟩ | ⟨-, u, held, range⟩ := kindTare
      · exact absurd (absent.symm.trans present) (by simp)
      · exact Option.some.inj (held.symm.trans present) ▸ range
  have claim : decodeClaimFields (visitRecordBytes v) = some v.claim := by
    rw [decodeClaimFields, token, category, time, decodeToken_tokenBytes tokenValid, decodeCategory_byteOf,
      decodeTime_timeBytes timeValid]
    simp only [flags, rate, weight, tare, kindBit, manualBit, rateRead, weightRead, kindRead, tareRead]
  refine ⟨?_, length⟩
  rw [decodeVisitRecord, number, decodeVisitNumber_bytes numberValid, claim]
  exact if_pos ⟨length, claimValid⟩

/-- Settles O60: each field is read back from its own bytes, and the fields stand at the places of 11.3. -/
theorem visitPayloadsRoundTrip : Obligations.VisitPayloadsRoundTrip := by
  refine ⟨fun v valid => decodeVisitRecord_bytes valid,
    fun n valid => ⟨decodeVisitNumber_bytes valid, length_visitNumberBytes n⟩,
    fun k v => ⟨length_beBytes k v, fromBe_beBytes k v, rfl⟩, fun n => rfl, fun v => ?_⟩
  obtain ⟨number, claim⟩ := v
  obtain ⟨token, kind, category, rate, weight, time, tare, manual⟩ := claim
  cases time <;> cases tare <;> rfl

end Sys2Proof
end

section
/-! PROOFS. The visit frames at the table (R94 to R101, R167): VISIT-OPEN by its four tests, and what VISIT-CLOSE, VISIT-VOID
and VISIT-ANNOUNCE change. -/

namespace Sys2Proof.Machine

/-! ### The four commands (R94) -/

/-- A VISIT-OPEN passes the check where its payload is in range and its opener is its source (R94). -/
theorem decodeOpen_eq_some_iff {source : Station} {payload : List Byte} {r : VisitRecord} :
    decodeOpen source payload = some r ↔ decodeVisitRecord payload = some r ∧ r.number.opener = source := by
  simp [decodeOpen, Option.filter_eq_some_iff]

theorem decodeOpen_eq_none {source : Station} {payload : List Byte} (bad : decodeVisitRecord payload = none ∨
    ∃ r, decodeVisitRecord payload = some r ∧ r.number.opener ≠ source) : decodeOpen source payload = none := by
  refine Option.eq_none_iff_forall_ne_some.2 fun r passes => ?_
  obtain ⟨spelt, own⟩ := decodeOpen_eq_some_iff.1 passes
  obtain unread | ⟨q, other, foreign⟩ := bad
  · exact absurd (unread.symm.trans spelt) (by simp)
  · exact foreign (Option.some.inj (other.symm.trans spelt) ▸ own)

section
variable {s : State} {source : Station} {payload : List Byte} {n : VisitNumber} {r : VisitRecord}
  (takes : s.takesYard = true)
include takes

theorem exec_visitOpen_malformed (bad : decodeOpen source payload = none) :
    exec (.visitOpen source payload) s = .next (s.took (.visitOpen source payload)).countMalformed := by
  show execVisitOpen source payload s = _
  rw [execVisitOpen, State.whenYard_takes _ (by simpa using takes), bad]

theorem exec_visitOpen (passes : decodeOpen source payload = some r) : let i := Instr.visitOpen source payload
    exec i s = .next { s.took i with
      visits := s.visits.takeOpen s.cfg.yardLimit r
      posted := (s.took i).posted ++ if source = s.own then
        [.event (.claimOutcome r.number (s.visits.openOutcome s.cfg.yardLimit r))] else [] } := by
  intro i
  show execVisitOpen source payload s = _
  rw [execVisitOpen, State.whenYard_takes _ (by simpa using takes), passes]
  simp only [State.postIf_gives, beq_iff_eq]
  rfl

theorem exec_visitClose_malformed (bad : decodeVisitNumber payload = none) :
    exec (.visitClose source payload) s = .next (s.took (.visitClose source payload)).countMalformed := by
  show execVisitClose source payload s = _
  rw [execVisitClose, State.whenYard_takes _ (by simpa using takes), bad]

theorem exec_visitClose (spelt : decodeVisitNumber payload = some n) : let t := s.took (.visitClose source payload)
    exec (.visitClose source payload) s = .next ((t.takeClose n).gives (if source = s.own then
      [.event (.closeOutcome n (if s.visits.hasNumber n then .found else .absent))] else [])) := by
  show execVisitClose source payload s = _
  rw [execVisitClose, State.whenYard_takes _ (by simpa using takes), spelt]
  simp only [State.postIf_gives, beq_iff_eq]
  rfl

theorem exec_visitVoid_malformed (bad : decodeVisitNumber payload = none) :
    exec (.visitVoid payload) s = .next (s.took (.visitVoid payload)).countMalformed := by
  show execVisitVoid payload s = _
  rw [execVisitVoid, State.whenYard_takes _ (by simpa using takes), bad]

theorem exec_visitVoid (spelt : decodeVisitNumber payload = some n) : let t := s.took (.visitVoid payload)
    exec (.visitVoid payload) s = .next (if s.visits.hasNumber n then t.removeVisit n else t) := by
  show execVisitVoid payload s = _
  rw [execVisitVoid, State.whenYard_takes _ (by simpa using takes), spelt]
  rfl

theorem exec_visitAnnounce_malformed (bad : decodeVisitRecord payload = none) :
    exec (.visitAnnounce payload) s = .next (s.took (.visitAnnounce payload)).countMalformed := by
  show execVisitAnnounce payload s = _
  rw [execVisitAnnounce, State.whenYard_takes _ (by simpa using takes), bad]

theorem exec_visitAnnounce (spelt : decodeVisitRecord payload = some r) : exec (.visitAnnounce payload) s =
    .next { s.took (.visitAnnounce payload) with visits := s.visits.takeAnnounce r } := by
  show execVisitAnnounce payload s = _
  rw [execVisitAnnounce, State.whenYard_takes _ (by simpa using takes), spelt]
  rfl

end

/-! ### The tests of an opening and of an announcement (R95, R100) -/

theorem VisitState.hasNumber_iff_exists {v : VisitState} {n : VisitNumber} :
    v.hasNumber n = true ↔ ∃ r ∈ v.table, r.number = n := (v.hasNumber_iff n).trans List.mem_map

theorem VisitState.hasToken_iff_exists {v : VisitState} {t : Token} :
    v.hasToken t = true ↔ ∃ r ∈ v.table, r.claim.token = t := (v.hasToken_iff t).trans List.mem_map

section
variable {v : VisitState} {limit : Nat} {r : VisitRecord}

/-- The first three tests leave the table as it is (R95). -/
theorem VisitState.takeOpen_same
    (h : v.hasNumber r.number = true ∨ v.hasToken r.claim.token = true ∨ limit ≤ v.table.length) :
    v.takeOpen limit r = v := if_pos (by simpa [or_assoc] using h)

variable (number : ¬ v.hasNumber r.number = true)

include number in
theorem VisitState.openOutcome_duplicate (token : v.hasToken r.claim.token = true) :
    v.openOutcome limit r = .duplicate := by
  rw [VisitState.openOutcome, if_neg number, if_pos token]

variable (token : ¬ v.hasToken r.claim.token = true)
include number token

theorem VisitState.openOutcome_full (full : limit ≤ v.table.length) : v.openOutcome limit r = .full := by
  rw [VisitState.openOutcome, if_neg number, if_neg token, if_pos full]

theorem VisitState.openOutcome_room (room : v.table.length < limit) : v.openOutcome limit r = .admitted := by
  rw [VisitState.openOutcome, if_neg number, if_neg token, if_neg (Nat.not_le.2 room)]

theorem VisitState.takeOpen_adds (room : v.table.length < limit) : v.takeOpen limit r = v.add r :=
  if_neg (by simp [number, token, room])

end

/-- Settles O43: the first of the four tests that applies gives the table and the outcome. -/
theorem visitOpenIsTakenByFourTests : Obligations.VisitOpenIsTakenByFourTests := by
  intro s source payload takes i table
  refine ⟨fun bad => exec_visitOpen_malformed takes (decodeOpen_eq_none bad), fun r spelt own => ?_⟩
  intro taken numbered tokened
  have opens {t : List VisitRecord} {o : ClaimResult}
      (table : s.visits.takeOpen s.cfg.yardLimit r = { s.visits with table := t })
      (outcome : s.visits.openOutcome s.cfg.yardLimit r = o) : exec i s = .next (taken t o) := by
    rw [exec_visitOpen takes (decodeOpen_eq_some_iff.2 ⟨spelt, own⟩), table, outcome]
  have byNumber : s.visits.hasNumber r.number = true ↔ numbered := VisitState.hasNumber_iff_exists
  have byToken : s.visits.hasToken r.claim.token = true ↔ tokened := VisitState.hasToken_iff_exists
  rw [← byNumber, ← byToken]
  exact ⟨fun number => opens (VisitState.takeOpen_same (.inl number)) (if_pos number),
    fun number token => opens (VisitState.takeOpen_same (.inr (.inl token)))
      (VisitState.openOutcome_duplicate number token),
    fun number token full => opens (VisitState.takeOpen_same (.inr (.inr full)))
      (VisitState.openOutcome_full number token full),
    fun number token room => opens (VisitState.takeOpen_adds number token room)
      (VisitState.openOutcome_room number token room)⟩

/-! ### Removals (R97, R99, R101, R167) -/

/-- The walk goes on by its own event, where it walks and that event is not given already (log 36). -/
theorem State.postAdvance_gives (s : State) : s.postAdvance = s.gives (if s.visits.cursor.walking = true ∧
    Posted.event .cursorAdvance ∉ s.posted then [.event .cursorAdvance] else []) := by
  simp [State.postAdvance, State.postIf_gives]

theorem State.postAdvance_fresh {s : State} (walks : s.visits.cursor.walking = true)
    (fresh : Posted.event .cursorAdvance ∉ s.posted) : s.postAdvance = s.gives [.event .cursorAdvance] := by
  rw [State.postAdvance_gives, if_pos ⟨walks, fresh⟩]

/-- A cursor that stood at the visit removed stands at the one behind it, and where there is none the walk ends (R166,
R167). -/
theorem Cursor.within_end (c : Cursor) (before behind : List VisitRecord) (h : c.position = before.length) :
    c.within (before ++ behind).length = if behind = [] then {} else c := by
  cases behind <;> simp [Cursor.within, h]

theorem Cursor.afterRemoval_eq (c : Cursor) (before behind : List VisitRecord) :
    c.afterRemoval before.length (before ++ behind).length =
      if c.walking = false then c
      else if before.length < c.position then { c with position := c.position - 1 }
      else if before.length = c.position then (if behind = [] then {} else { c with waiting := none })
      else c := by
  unfold Cursor.afterRemoval
  refine if_congr (by simp) rfl (if_congr Iff.rfl rfl ?_)
  split
  next here => exact Cursor.within_end _ before behind here.symm
  next => rfl

section
variable {s : State} {n : VisitNumber} {before behind : List VisitRecord} {v : VisitRecord}
  (table : s.visits.table = before ++ v :: behind) (number : v.number = n) (others : ∀ b ∈ before, b.number ≠ n)
include table number others

theorem State.findIdx_number : s.visits.table.findIdx (fun r => r.number == n) = before.length := by
  have passed : before.findIdx (fun r => r.number == n) = before.length :=
    List.findIdx_eq_length.2 fun b mem => by simpa using others b mem
  rw [table, List.findIdx_append, passed, if_neg (Nat.lt_irrefl _), List.findIdx_cons, beq_iff_eq.2 number]
  simp

/-- The events of a removal: the walk goes on from the visit it waited at, before the lane is told (R101, R167; log 2). -/
theorem State.removeVisit_eq : let c := s.visits.cursor
    let cursor := c.afterRemoval before.length (before ++ behind).length
    s.removeVisit n = { s with
      visits := { s.visits with table := before ++ behind, cursor := cursor }
      posted := s.posted ++ (if c.waiting.isSome = true ∧ cursor.waiting = none ∧ cursor.walking = true ∧
        Posted.event .cursorAdvance ∉ s.posted then [.event .cursorAdvance] else []) ++ [.event (.removalReport n)] } := by
  intro c cursor
  have erased : s.visits.table.eraseIdx before.length = before ++ behind := by
    rw [table, List.eraseIdx_append_of_length_le (Nat.le_refl _), Nat.sub_self]
    rfl
  simp only [State.removeVisit, State.findIdx_number table number others, erased]
  by_cases goesOn : c.waiting.isSome = true ∧ cursor.waiting = none
  · have given : (cursor.walking = true ∧ Posted.event .cursorAdvance ∉ s.posted) ↔ c.waiting.isSome = true ∧
        cursor.waiting = none ∧ cursor.walking = true ∧ Posted.event .cursorAdvance ∉ s.posted :=
      ⟨fun h => ⟨goesOn.1, goesOn.2, h⟩, fun h => h.2.2⟩
    rw [if_pos (by simpa [c, cursor] using goesOn), State.postAdvance_gives, ← if_congr given rfl rfl]
    rfl
  · rw [if_neg (by simpa [c, cursor] using goesOn), if_neg fun h => goesOn ⟨h.1, h.2.1⟩, List.append_nil]
    rfl

end

/-- Settles O44: whether the number is held decides a close and a void, and the tests of R100 in order an announcement. -/
theorem closeVoidAndAnnounceAreTaken : Obligations.CloseVoidAndAnnounceAreTaken := by
  intro s source payload takes close void announce told
  refine ⟨?_, fun n before v behind spelt table number others => ?_, fun n spelt absent => ?_, fun r spelt => ?_⟩
  · rintro i (⟨rfl | rfl, bad⟩ | ⟨rfl, bad⟩)
    · exact exec_visitClose_malformed takes bad
    · exact exec_visitVoid_malformed takes bad
    · exact exec_visitAnnounce_malformed takes bad
  · intro c cursor goesOn removed
    have held : s.visits.hasNumber n = true := VisitState.hasNumber_iff_exists.2 ⟨v, by simp [table], number⟩
    have removes (i : Instr) : (s.took i).removeVisit n = removed i := by
      rw [State.removeVisit_eq (s := s.took i) table number others, Cursor.afterRemoval_eq]
      rfl
    refine ⟨?_, ?_⟩
    · rw [exec_visitClose takes spelt, State.takeClose, if_pos (by simpa using held), if_pos held, removes]
      rfl
    · rw [exec_visitVoid takes spelt, if_pos held, removes]
  · have unheld : ¬ s.visits.hasNumber n = true := Bool.eq_false_iff.1 ((s.visits.hasNumber_eq_false_iff n).2 absent)
    refine ⟨?_, ?_⟩
    · rw [exec_visitClose takes spelt, State.takeClose, if_neg (by simpa using unheld), if_neg unheld]
      rfl
    · rw [exec_visitVoid takes spelt, if_neg unheld]
  · intro numbered tokened
    have byNumber : s.visits.hasNumber r.number = true ↔ numbered := VisitState.hasNumber_iff_exists
    have byToken : s.visits.hasToken r.claim.token = true ↔ tokened := VisitState.hasToken_iff_exists
    rw [← byNumber, ← byToken, exec_visitAnnounce takes spelt, VisitState.takeAnnounce]
    refine ⟨fun number => ?_, fun number token => ?_, fun number token room => ?_, fun number token full => ?_⟩
    · rw [if_pos number]
      rfl
    · rw [if_neg number, if_pos token]
      rfl
    · rw [if_neg number, if_neg token, if_pos (show _ < maxVisits from room)]
      rfl
    · rw [if_neg number, if_neg token, if_neg (show ¬ _ < maxVisits from Nat.not_lt.2 full)]
      rfl

end Sys2Proof.Machine
end

section
/-! PROOFS. The announce cursor (R108, R164 to R167): its start, the custodian of a visit, and the walk through the table. -/

namespace Sys2Proof.Machine

/-! ### The cursor's commands (R108, R164, R166) -/

section
variable {s : State} (live : s.live = true)
include live

theorem exec_cursorEnable :
    exec .cursorEnable s = .next { s.took .cursorEnable with visits := { s.visits with cursorEnabled := true } } := by
  show execCursorEnable s = _
  rw [execCursorEnable, State.whenLive_live _ (by simpa using live)]
  rfl

theorem exec_cursorStart_disabled {joiner : Station} (disabled : s.visits.cursorEnabled = false) :
    exec (.cursorStart joiner) s = .next (s.took (.cursorStart joiner)) := by
  show execCursorStart joiner s = _
  rw [execCursorStart, State.whenLive_live _ (by simpa using live)]
  exact congrArg Host.Outcome.next (if_neg (by simp [disabled]))

theorem exec_cursorStart {joiner : Station} (enabled : s.visits.cursorEnabled = true) :
    exec (.cursorStart joiner) s = .next (State.postAdvance { s.took (.cursorStart joiner) with
      visits := { s.visits with cursor := s.visits.cursor.started joiner s.visits.table.length } }) := by
  show execCursorStart joiner s = _
  rw [execCursorStart, State.whenLive_live _ (by simpa using live)]
  exact congrArg Host.Outcome.next (if_pos enabled)

theorem exec_cursorAdvance (walks : s.visits.cursor.walking = true) (free : s.visits.cursor.waiting = none) :
    exec .cursorAdvance s = .next (s.took .cursorAdvance).advanceCursor := by
  show execCursorAdvance s = _
  rw [execCursorAdvance, State.whenLive_live _ (by simpa using live)]
  exact congrArg Host.Outcome.next (if_pos (by simp [walks, free]))

theorem exec_visitQueueDeparture_announces {r : VisitRecord} (slot : s.visits.slot = none)
    (waiting : s.visits.cursor.waiting = some r) :
    exec .visitQueueDeparture s = .next ((s.took .visitQueueDeparture).announce r) := by
  show execVisitQueueDeparture s = _
  rw [execVisitQueueDeparture, State.whenLive_live _ (by simpa using live)]
  simp only [State.took_visits, slot, waiting]

end

/-! ### The start of a walk (R164) -/

theorem Cursor.started_empty (c : Cursor) (joiner : Station) : c.started joiner 0 = {} := rfl

theorem Cursor.started_first (c : Cursor) (joiner : Station) {length : Nat} (visits : 0 < length) :
    c.started joiner length = {
      walking := true
      joiners := if joiner ∈ c.joiners then c.joiners else c.joiners ++ [joiner] } := by
  rw [Cursor.started, Cursor.within, if_pos visits]
  simp only [List.contains_eq_mem, decide_eq_true_eq]

/-! ### One step of the walk (R105, R165, R166) -/

/-- The state in which the cursor has gone on from its visit: to the next, by an event of its own, or out of the walk behind
the last (R166; log 36). -/
def State.walksOn (s : State) : State :=
  let last := s.visits.table.length = s.visits.cursor.position + 1
  { s with
    visits := { s.visits with cursor := if last then {} else
      { s.visits.cursor with position := s.visits.cursor.position + 1, waiting := none } }
    posted := s.posted ++ if last then [] else [.event .cursorAdvance] }

/-- The state in which the announcement of the visit waits (R166). -/
def State.awaitsRoom (s : State) (r : VisitRecord) : State :=
  { s with visits := { s.visits with cursor := { s.visits.cursor with waiting := some r } } }

theorem State.tryStart_announceFrame (s : State) (r : VisitRecord) : State.tryStart { s with link := { s.link with
    visit := { s.link.visit with frames := s.link.visit.frames ++ [announceFrame r] } } } =
      { s with link := s.linkAfter (announceFrame r) } :=
  State.tryStart_beside (s := { s with link := s.link.push (announceFrame r) }) rfl rfl rfl

section
variable {s : State} (walks : s.visits.cursor.walking = true)
  (inside : s.visits.cursor.position < s.visits.table.length) (fresh : Posted.event .cursorAdvance ∉ s.posted)
include walks inside fresh

theorem State.moveCursor_walksOn : s.moveCursor = s.walksOn := by
  by_cases last : s.visits.table.length = s.visits.cursor.position + 1
  · have ended : s.visits.cursor.moved s.visits.table.length = {} := if_neg (by simp only; omega)
    rw [State.moveCursor, ended, State.postAdvance_gives]
    simp only [State.walksOn, last, if_true]
    rfl
  · have moved : s.visits.cursor.moved s.visits.table.length =
        { s.visits.cursor with position := s.visits.cursor.position + 1, waiting := none } :=
      if_pos (by simp only; omega)
    rw [State.moveCursor, moved]
    simp only [State.walksOn, last, if_false]
    exact State.postAdvance_fresh walks fresh

theorem State.announce_places {r : VisitRecord} (on : s.offline = false) (slot : s.visits.slot = none)
    (room : s.link.visit.frames.length < 8) :
    s.announce r = State.walksOn { s with link := s.linkAfter (announceFrame r) } := by
  have placed : s.place (announceFrame r) = _ :=
    State.place_links on (show QueueName.visit ≠ .routine by decide) (decide_eq_true room)
  simp only [State.announce, placed, slot, Option.isNone_none, Bool.and_self, if_true]
  exact State.moveCursor_walksOn walks inside fresh

end

section
variable {s : State} {r : VisitRecord}

theorem State.announce_awaits (on : s.offline = false)
    (h : s.visits.slot.isSome = true ∨ 8 ≤ s.link.visit.frames.length) : s.announce r = s.awaitsRoom r := by
  obtain slot | full := h
  · exact if_neg (by simp [Option.isSome_iff_ne_none.1 slot])
  · have refused : s.place (announceFrame r) = (s, false) :=
      State.place_full on (decide_eq_false (Nat.not_lt.2 full))
    simp only [State.announce, refused, Bool.and_false]
    rfl

theorem State.isCustodian_iff : s.isCustodian r = true ↔
    custodianOf s.peers.table s.visits.cursor.joiners r.number.opener = some s.own := beq_iff_eq

variable (here : s.visits.table[s.visits.cursor.position]? = some r)
include here

theorem State.advanceCursor_custodian (custodian : s.isCustodian r = true) : s.advanceCursor = s.announce r := by
  simp only [State.advanceCursor, here, custodian, if_true]

theorem State.advanceCursor_other (other : ¬ s.isCustodian r = true) : s.advanceCursor = s.moveCursor := by
  simp only [State.advanceCursor, here]
  exact if_neg other

end

/-! ### The custodian (R165) -/

theorem custodianCandidate_iff (table : Vector Peer 16) (joiners : List Station) (k : Station) :
    custodianCandidate table joiners k = true ↔ k ≠ 0 ∧ (table[k]).state = .live ∧
      (table[k]).reportedActive = some true ∧ k ∉ joiners := by
  simp [custodianCandidate, and_assoc]

/-- The first station of the list of all stations that meets a test is the lowest that does. -/
theorem find_finRange_iff {n : Nat} (p : Fin n → Bool) (k : Fin n) :
    (List.finRange n).find? p = some k ↔ p k = true ∧ ∀ j, p j = true → k ≤ j := by
  rw [List.find?_eq_some_iff_getElem]
  refine and_congr_right fun _ => ⟨?_, fun lowest => ?_⟩
  · rintro ⟨i, inside, rfl, earlier⟩ j meets
    by_contra below
    have fails := earlier j.val (by simpa [Fin.lt_def] using Fin.not_le.1 below)
    simp [meets] at fails
  · refine ⟨k.val, by simp, by simp, fun j below => ?_⟩
    by_contra meets
    have above := lowest _ (by simpa using meets)
    exact absurd below (by simpa [Fin.le_def] using above)

theorem custodianOf_iff (table : Vector Peer 16) (joiners : List Station) (opener n : Station) :
    let candidate (k : Station) : Prop := custodianCandidate table joiners k = true
    custodianOf table joiners opener = some n ↔ (candidate opener ∧ n = opener) ∨
      (¬ candidate opener ∧ candidate n ∧ ∀ k, candidate k → n ≤ k) := by
  intro candidate
  by_cases h : candidate opener
  · rw [custodianOf, if_pos h]
    simp [h, eq_comm]
  · rw [custodianOf, if_neg h, find_finRange_iff]
    simp [h, candidate]

/-- Settles O46: a walk is begun by its start, goes on by one step at each visit, and takes a removal by where it stands;
the custodian is the lowest candidate where the opener is none. -/
theorem announceCursorWalksTheTable : Obligations.AnnounceCursorWalksTheTable := by
  refine ⟨fun s joiner live => ?_, fun s r live on walks here => ?_,
    fun s n before behind v walks table number others => ?_, fun table joiners opener n => ?_⟩
  · intro i
    refine ⟨exec_cursorEnable live, exec_cursorStart_disabled live, fun enabled empty => ?_,
      fun enabled visits fresh => ?_⟩
    · rw [exec_cursorStart live enabled, empty, List.length_nil, Cursor.started_empty, State.postAdvance_gives]
      exact congrArg Host.Outcome.next (State.gives_nil _)
    · rw [exec_cursorStart live enabled, Cursor.started_first _ _ (List.length_pos_iff.2 visits)]
      exact congrArg Host.Outcome.next (State.postAdvance_fresh rfl fresh)
  · intro frame last custodian onward placed i k
    have inside : s.visits.cursor.position < s.visits.table.length := (List.getElem?_eq_some_iff.1 here).1
    have links (t : State) : placed t = { t with link := t.linkAfter (announceFrame r) } := t.tryStart_announceFrame r
    refine ⟨fun free fresh => ?_, fun waiting slot fresh room => ?_⟩
    · rw [exec_cursorAdvance live walks free]
      refine ⟨fun other => ?_, fun own slot room => ?_, fun own blocked => ?_⟩
      · rw [State.advanceCursor_other (s := s.took i) here (mt State.isCustodian_iff.1 other),
          State.moveCursor_walksOn (s := s.took i) walks inside fresh]
        rfl
      · rw [State.advanceCursor_custodian (s := s.took i) here (State.isCustodian_iff.2 own),
          State.announce_places (s := s.took i) walks inside fresh on slot room, links]
        rfl
      · rw [State.advanceCursor_custodian (s := s.took i) here (State.isCustodian_iff.2 own),
          State.announce_awaits (s := s.took i) on blocked]
        rfl
    · rw [exec_visitQueueDeparture_announces live slot waiting,
        State.announce_places (s := s.took k) walks inside fresh on slot room, links]
      rfl
  · rw [State.removeVisit_eq table number others, Cursor.afterRemoval_eq, if_neg (by simp [walks])]
  · simp only [← custodianCandidate_iff]
    exact custodianOf_iff table joiners opener n

end Sys2Proof.Machine
end

section
/-! PROOFS. The tare and tariff store (6.1 to 6.3): the table of stored tares, the frames that set and drop its entries, and
the store's answers to the lane. -/

namespace Sys2Proof.Machine

/-! ### The table of stored tares (R113 to R115) -/

section
variable {t : TareStore} {token : Token} {r : TareRecord}

theorem TareStore.find_eq_none_iff : t.find token = none ↔ ∀ q ∈ t.tares, q.token ≠ token := by
  simp [TareStore.find]

theorem TareStore.find_isSome_iff : (t.find token).isSome = true ↔ ∃ q ∈ t.tares, q.token = token := by
  simp [TareStore.find]

theorem TareStore.drop_absent (absent : ∀ q ∈ t.tares, q.token ≠ token) : t.drop token = t := by
  have same : t.tares.filter (fun q => q.token != token) = t.tares :=
    List.filter_eq_self.2 fun q mem => bne_iff_ne.2 (absent q mem)
  rw [TareStore.drop, same]

theorem TareStore.drop_present {before behind : List TareRecord} (table : t.tares = before ++ r :: behind)
    (own : r.token = token) (others : ∀ q ∈ before ++ behind, q.token ≠ token) :
    t.drop token = { t with tares := before ++ behind } := by
  have kept : (before ++ behind).filter (fun q => q.token != token) = before ++ behind :=
    List.filter_eq_self.2 fun q mem => bne_iff_ne.2 (others q mem)
  rw [TareStore.drop, table, List.filter_append, List.filter_cons_of_neg (by simp [own]), ← List.filter_append, kept]

theorem TareStore.find_drop (t : TareStore) (token : Token) : (t.drop token).find token = none :=
  TareStore.find_eq_none_iff.2 fun _ mem => bne_iff_ne.1 (List.mem_filter.1 mem).2

theorem TareStore.store_present (present : ∃ q ∈ t.tares, q.token = r.token) :
    t.store r = { t with tares := t.tares.filter (fun q => q.token != r.token) ++ [r] } :=
  if_pos (TareStore.find_isSome_iff.2 present)

section
variable (absent : ∀ q ∈ t.tares, q.token ≠ r.token)
include absent

theorem TareStore.store_absent : t.store r =
    if t.tares.length < 64 then { t with tares := t.tares ++ [r] } else { t with tares := t.tares.drop 1 ++ [r] } :=
  if_neg (by rw [TareStore.find_eq_none_iff.2 absent]; exact Bool.false_ne_true)

theorem TareStore.store_joins (room : t.tares.length < 64) : t.store r = { t with tares := t.tares ++ [r] } :=
  (TareStore.store_absent absent).trans (if_pos room)

theorem TareStore.store_full (full : 64 ≤ t.tares.length) : t.store r = { t with tares := t.tares.drop 1 ++ [r] } :=
  (TareStore.store_absent absent).trans (if_neg (Nat.not_lt.2 full))

end

/-- Whichever place is freed for it, a record stored stands at the tail (R114). -/
theorem TareStore.store_getLast? (t : TareStore) (r : TareRecord) : (t.store r).tares.getLast? = some r := by
  unfold TareStore.store
  split
  · exact List.getLast?_concat
  · split <;> exact List.getLast?_concat

end

/-! ### What the payloads spell (R114, R115, R119, R190) -/

theorem length_field {bs : List Byte} {start len : Nat} (inside : start + len ≤ bs.length) :
    (field bs start len).length = len := by
  rw [field, List.length_take, List.length_drop]
  omega

theorem decodeOptional_field {bs : List Byte} {start len : Nat} (inside : start + len ≤ bs.length) :
    decodeOptional (field bs start len) =
      if field bs start len = List.replicate len 0xFF#8 then none else some (fromBe (field bs start len)) := by
  rw [decodeOptional, length_field inside]

theorem decodeCategory_eq_none {b : Byte} (large : 16 ≤ b.toNat) : decodeCategory b = none := dif_neg (Nat.not_lt.2 large)

theorem decodeOptCategory_inRange {b : Byte} (inRange : b.toNat < 16 ∨ b = 0xFF#8) :
    decodeOptCategory b = some (if b = 0xFF#8 then none else some (Fin.ofNat 16 b.toNat)) := by
  by_cases absent : b = 0xFF#8
  · rw [decodeOptCategory, if_pos absent, if_pos absent]
  · have small := inRange.resolve_right absent
    rw [decodeOptCategory, if_neg absent, if_neg absent,
      (decodeCategory_iff b (Fin.ofNat 16 b.toNat)).2 (Nat.mod_eq_of_lt small).symm]
    rfl

theorem decodeOptCategory_eq_none {b : Byte} (large : 16 ≤ b.toNat) (present : b ≠ 0xFF#8) :
    decodeOptCategory b = none := by
  rw [decodeOptCategory, if_neg present, decodeCategory_eq_none large]
  rfl

section
variable {payload : List Byte}

theorem decodeTareDrop_eight {token : Token} (length : payload.length = 8) (spelt : decodeToken payload = some token) :
    decodeTareDrop payload = some token := (if_pos length).trans spelt

theorem decodeTareDrop_eq_none (bad : decodeToken payload = none) : decodeTareDrop payload = none := by
  rw [decodeTareDrop, bad, ite_self]

theorem decodeTareSet_inRange {token : Token} (length : payload.length = 14)
    (spelt : decodeToken (field payload 0 8) = some token) (tare : field payload 8 3 ≠ [0xFF#8, 0xFF#8, 0xFF#8])
    (category : (byteAt payload 13).toNat < 16 ∨ byteAt payload 13 = 0xFF#8) :
    decodeTareSet payload = some {
      token
      tare := min (fromBe (field payload 8 3)) 80000
      expiry := if field payload 11 2 = [0xFF#8, 0xFF#8] then none else some (fromBe (field payload 11 2))
      category := if byteAt payload 13 = 0xFF#8 then none else some (Fin.ofNat 16 (byteAt payload 13).toNat) } := by
  have tareRead : decodeOptional (field payload 8 3) = some (fromBe (field payload 8 3)) :=
    (decodeOptional_field (by omega)).trans (if_neg tare)
  have expiryRead := decodeOptional_field (bs := payload) (start := 11) (len := 2) (by omega)
  simp only [decodeTareSet, length, spelt, tareRead, expiryRead, decodeOptCategory_inRange category]
  rfl

theorem decodeTareSet_eq_none (bad : payload.length ≠ 14 ∨ decodeToken (field payload 0 8) = none ∨
    field payload 8 3 = [0xFF#8, 0xFF#8, 0xFF#8] ∨ (16 ≤ (byteAt payload 13).toNat ∧ byteAt payload 13 ≠ 0xFF#8)) :
    decodeTareSet payload = none := by
  unfold decodeTareSet
  split
  next token tare category lengthOk tokenRead tareRead categoryRead =>
    obtain length | unread | absent | ⟨large, present⟩ := bad
    · exact absurd (beq_iff_eq.1 lengthOk) length
    · exact absurd (unread.symm.trans tokenRead) (by simp)
    · have unread : decodeOptional (field payload 8 3) = none := by rw [absent]; rfl
      exact absurd (unread.symm.trans tareRead) (by simp)
    · exact absurd ((decodeOptCategory_eq_none large present).symm.trans categoryRead) (by simp)
  next => rfl

theorem decodeTariffSet_inRange {c : Category} (length : payload.length = 4) (category : (byteAt payload 0).toNat = c.val) :
    decodeTariffSet payload = some (c, if field payload 1 3 = [0xFF#8, 0xFF#8, 0xFF#8] then none
      else some (min (fromBe (field payload 1 3)) 999999)) := by
  have rateRead := decodeOptional_field (bs := payload) (start := 1) (len := 3) (by omega)
  simp only [decodeTariffSet, length, (decodeCategory_iff _ c).2 category, rateRead]
  by_cases closed : field payload 1 3 = [0xFF#8, 0xFF#8, 0xFF#8]
  · rw [if_pos closed]
    simp [closed]
  · rw [if_neg closed, if_neg (show field payload 1 3 ≠ List.replicate 3 0xFF#8 from closed)]
    rfl

theorem decodeTariffSet_eq_none (bad : payload.length ≠ 4 ∨ 16 ≤ (byteAt payload 0).toNat) :
    decodeTariffSet payload = none := by
  unfold decodeTariffSet
  split
  next c lengthOk categoryRead =>
    obtain length | large := bad
    · exact absurd (beq_iff_eq.1 lengthOk) length
    · exact absurd ((decodeCategory_eq_none large).symm.trans categoryRead) (by simp)
  next => rfl

end

/-! ### The frames (R114, R115, R119) -/

section
variable {s : State} {payload : List Byte} (takes : s.takesYard = true)
include takes

theorem exec_tareDrop {token : Token} (spelt : decodeTareDrop payload = some token) : exec (.tareDrop payload) s =
    .next { s.took (.tareDrop payload) with store := s.store.drop token } := by
  show execTareDrop payload s = _
  rw [execTareDrop, State.whenYard_takes _ (by simpa using takes), spelt]
  rfl

theorem exec_tareDrop_malformed (bad : decodeTareDrop payload = none) :
    exec (.tareDrop payload) s = .next (s.took (.tareDrop payload)).countMalformed := by
  show execTareDrop payload s = _
  rw [execTareDrop, State.whenYard_takes _ (by simpa using takes), bad]

theorem exec_tareSet {r : TareRecord} (spelt : decodeTareSet payload = some r) : exec (.tareSet payload) s =
    .next { s.took (.tareSet payload) with store := s.store.store r } := by
  show execTareSet payload s = _
  rw [execTareSet, State.whenYard_takes _ (by simpa using takes), spelt]
  rfl

theorem exec_tareSet_malformed (bad : decodeTareSet payload = none) :
    exec (.tareSet payload) s = .next (s.took (.tareSet payload)).countMalformed := by
  show execTareSet payload s = _
  rw [execTareSet, State.whenYard_takes _ (by simpa using takes), bad]

theorem exec_tariffSet {c : Category} {rate : Option Nat} (spelt : decodeTariffSet payload = some (c, rate)) :
    exec (.tariffSet payload) s = .next { s.took (.tariffSet payload) with
      store := { s.store with tariff := s.store.tariff.set c rate } } := by
  show execTariffSet payload s = _
  rw [execTariffSet, State.whenYard_takes _ (by simpa using takes), spelt]
  rfl

theorem exec_tariffSet_malformed (bad : decodeTariffSet payload = none) :
    exec (.tariffSet payload) s = .next (s.took (.tariffSet payload)).countMalformed := by
  show execTariffSet payload s = _
  rw [execTariffSet, State.whenYard_takes _ (by simpa using takes), bad]

end

/-- Settles O47: the record dropped is the one record of its token, and a drop and a set each undo the other. -/
theorem tareDropRemovesTheRecord : Obligations.TareDropRemovesTheRecord := by
  refine ⟨fun s payload takes => ?_, fun t r => ⟨TareStore.find_drop _ _, TareStore.store_getLast? _ _⟩⟩
  intro i
  refine ⟨fun token length spelt => ?_, fun bad => exec_tareDrop_malformed takes (decodeTareDrop_eq_none bad)⟩
  have dropped := exec_tareDrop takes (decodeTareDrop_eight length spelt)
  refine ⟨fun before r behind table own others => ?_, fun absent => ?_⟩
  · rw [dropped, TareStore.drop_present table own others]
  · rw [dropped, TareStore.drop_absent absent]
    rfl

/-! ### The lane's requests (R116, R117, R120, R121) -/

section
variable {s : State} {token : Token} {c : Category} (takes : s.laneTakes = true)
include takes

theorem exec_categoryResolution (reader : Option Category) :
    exec (.categoryResolution token reader) s = .next (s.resolveCategory token reader).1 :=
  congrArg Host.Outcome.next (State.whenLane_takes _ takes)

theorem exec_closedQuestion : exec (.closedQuestion c) s = .next (s.askClosed c) :=
  congrArg Host.Outcome.next (State.whenLane_takes _ takes)

theorem exec_kindRequest : exec (.kindRequest token c) s = .next (s.requestKind token c) :=
  congrArg Host.Outcome.next (State.whenLane_takes _ takes)

end

section
variable {s : State} {token : Token} {c : Category}

theorem State.isClosed_eq_decide (s : State) (c : Category) : s.isClosed c = decide (s.store.tariff[c] = none) := by
  cases h : s.store.tariff[c] <;> simp [State.isClosed, h]

theorem State.resolveCategory_lookedUp : (s.resolveCategory token none).1 = { s with
    store := s.store.lookedUp s.peers.clock token
    answers := { s.answers with
      category := some (((s.store.unexpired s.peers.clock token).bind (·.category)).getD 0) } } := rfl

theorem State.requestKind_closed (closed : s.store.tariff[c] = none) :
    s.requestKind token c = { s with answers := { s.answers with kind := some .closed } } := by
  rw [State.requestKind, State.kindAnswer_closed token closed, if_pos (by simp [State.isClosed, closed])]

/-- A category that is not CLOSED is answered with what the lookup finds, and the lookup is made (R121). -/
theorem State.requestKind_open {rate : Nat} (rated : s.store.tariff[c] = some rate) : s.requestKind token c = { s with
    store := s.store.lookedUp s.peers.clock token
    answers := { s.answers with kind := some (s.kindAnswer token c) } } := by
  rw [State.requestKind, if_neg (by simp [State.isClosed, rated])]

theorem State.kindAnswer_found {rate : Nat} {r : TareRecord} (rated : s.store.tariff[c] = some rate)
    (found : s.store.unexpired s.peers.clock token = some r) : s.kindAnswer token c =
      if s.cfg.singlePass then .given .storedTare rate (some r.tare) else .given .twoPass rate none := by
  simp only [State.kindAnswer, rated, found]
  cases s.cfg.singlePass <;> rfl

theorem State.kindAnswer_missing {rate : Nat} (rated : s.store.tariff[c] = some rate)
    (missing : s.store.unexpired s.peers.clock token = none) : s.kindAnswer token c = .given .twoPass rate none := by
  simp only [State.kindAnswer, rated, missing]
  cases s.cfg.singlePass <;> rfl

end


/-- Settles O48: the frames by what their payloads spell, the lane's requests by what the lookup finds. -/
theorem storeTakesFramesAndAnswersTheLane : Obligations.StoreTakesFramesAndAnswersTheLane := by
  refine ⟨fun s payload takes => ?_, fun s token c takes => ?_⟩
  · intro i k malformed stored
    refine ⟨fun token length spelt tare category => ?_,
      fun bad => exec_tareSet_malformed takes (decodeTareSet_eq_none bad),
      fun c length category => exec_tariffSet takes (decodeTariffSet_inRange length category),
      fun bad => exec_tariffSet_malformed takes (decodeTariffSet_eq_none bad)⟩
    intro r others
    have stores : exec i s = .next { s.took i with store := s.store.store r } :=
      exec_tareSet takes (decodeTareSet_inRange length spelt tare category)
    exact ⟨fun present => stores.trans (by rw [TareStore.store_present present]),
      fun absent room => stores.trans (by rw [TareStore.store_joins absent room]),
      fun absent full => stores.trans (by rw [TareStore.store_full absent full])⟩
  · intro expired moved absent resolved kind
    have found {r : TareRecord} (finds : s.store.find token = some r) (live : ¬ expired r) :
        s.store.unexpired s.peers.clock token = some r :=
      TareStore.unexpired_found finds (mt (r.expired_iff _).1 live)
    have missing (lacks : absent) : s.store.unexpired s.peers.clock token = none :=
      TareStore.unexpired_none (lacks.imp_right fun ⟨r, finds, past⟩ => ⟨r, finds, (r.expired_iff _).2 past⟩)
    refine ⟨exec_categoryResolution takes (some c), fun r finds live => ?_, fun lacks => ?_, ?_,
      fun closed => ?_, fun rate rated => ⟨fun r finds live => ?_, fun lacks => ?_⟩⟩
    · rw [exec_categoryResolution takes, State.resolveCategory_lookedUp, found finds live,
        TareStore.lookedUp_some (found finds live)]
      rfl
    · rw [exec_categoryResolution takes, State.resolveCategory_lookedUp, missing lacks,
        TareStore.lookedUp_none (missing lacks)]
      rfl
    · rw [exec_closedQuestion takes, State.askClosed, State.isClosed_eq_decide]
    · rw [exec_kindRequest takes, State.requestKind_closed closed]
    · rw [exec_kindRequest takes, State.requestKind_open rated, State.kindAnswer_found rated (found finds live),
        TareStore.lookedUp_some (found finds live)]
    · rw [exec_kindRequest takes, State.requestKind_open rated, State.kindAnswer_missing rated (missing lacks),
        TareStore.lookedUp_none (missing lacks)]

end Sys2Proof.Machine
end

section
/-! PROOFS. The values taken from a configuration image (R118, R156, R189): each from its bytes, and in its range. -/

namespace Sys2Proof.Machine

/-! ### Numbers and flags (R189) -/

theorem clampNat_eq {lo hi : Nat} (ordered : lo ≤ hi) (v : Nat) : clampNat lo hi v = max lo (min hi v) := by
  unfold clampNat
  split
  · omega
  · split <;> omega

theorem imageNat_eq (image : List Byte) (start len : Nat) {lo hi : Nat} (ordered : lo ≤ hi) :
    imageNat image start len lo hi = max lo (min hi (fromBe (field image start len))) := clampNat_eq ordered _

theorem imageNat_inRange (image : List Byte) (start len : Nat) {lo hi : Nat} (ordered : lo ≤ hi) :
    lo ≤ imageNat image start len lo hi ∧ imageNat image start len lo hi ≤ hi := by
  rw [imageNat_eq image start len ordered]
  exact ⟨Nat.le_max_left _ _, Nat.max_le.2 ⟨ordered, Nat.min_le_left _ _⟩⟩

theorem imageFlag_iff (image : List Byte) (i : Nat) : imageFlag image i = true ↔ byteAt image i ≠ 0#8 := bne_iff_ne

theorem roadEnd_b_iff (image : List Byte) : (settingsOfImage image).roadEnd = .b ↔ byteAt image 0x0E ≠ 0#8 := by
  rw [← imageFlag_iff]
  show (if imageFlag image 0x0E then End.b else .a) = .b ↔ _
  split <;> simp_all

theorem imageInput_eq (image : List Byte) (i : Nat) : imageInput image i =
    { activeHigh := decide (32768 ≤ fromBe (field image (0x10 + 2 * i) 2))
      debounce := max 20 (min 500 (fromBe (field image (0x10 + 2 * i) 2) % 512)) } :=
  congrArg (InputSetting.mk _) (clampNat_eq (by decide) _)

theorem imageInput_inRange (image : List Byte) (i : Nat) :
    20 ≤ (imageInput image i).debounce ∧ (imageInput image i).debounce ≤ 500 := by
  rw [imageInput_eq]
  exact ⟨Nat.le_max_left _ _, Nat.max_le.2 ⟨by decide, Nat.min_le_left _ _⟩⟩

/-! ### The channel map (R1, R189) -/

theorem imageChannelMap_kept {image : List Byte} (enough : 2 ≤ (scanList (byteAt image 0x2C)).length) :
    imageChannelMap image = byteAt image 0x2C := if_neg (Nat.not_lt.2 enough)

theorem imageChannelMap_replaced {image : List Byte} (few : (scanList (byteAt image 0x2C)).length < 2) :
    imageChannelMap image = 3#8 := if_pos few

theorem imageChannelMap_cells (image : List Byte) : 2 ≤ (scanList (imageChannelMap image)).length := by
  obtain few | enough := Nat.lt_or_ge (scanList (byteAt image 0x2C)).length 2
  · rw [imageChannelMap_replaced few]
    decide
  · rwa [imageChannelMap_kept enough]

/-! ### The phase table (R156) -/

/-- The two bits of phase `p`, phase 0 in the highest. -/
def phaseBits (image : List Byte) (p : Fin 16) : Nat := fromBe (field image 0x2D 4) / 4 ^ (15 - p.val) % 4

/-- Every phase names a queue, and every queue is named (R156). -/
def namesPhases (image : List Byte) : Prop := (∀ p, phaseBits image p ≠ 0) ∧ (∃ p, phaseBits image p = 1) ∧
  (∃ p, phaseBits image p = 2) ∧ ∃ p, phaseBits image p = 3

/-- The code of a queue in the phase table (R156). -/
def phaseCode : PhaseQueue → Nat
  | .visit => 1
  | .routine => 2
  | .bulk => 3

section
variable {image : List Byte} {p : Fin 16}

theorem imagePhase_eq_some_iff {q : PhaseQueue} : imagePhase image p.val = some q ↔ phaseBits image p = phaseCode q := by
  unfold imagePhase
  split
  next bits => cases q <;> simp [phaseBits, bits, phaseCode]
  next bits => cases q <;> simp [phaseBits, bits, phaseCode]
  next bits => cases q <;> simp [phaseBits, bits, phaseCode]
  next one two three => cases q <;> simpa [phaseBits, phaseCode]

theorem imagePhase_isSome_iff : (imagePhase image p.val).isSome = true ↔ phaseBits image p ≠ 0 := by
  have small : phaseBits image p < 4 := Nat.mod_lt _ (by decide)
  rw [Option.isSome_iff_exists]
  simp only [imagePhase_eq_some_iff]
  refine ⟨fun ⟨q, code⟩ => by cases q <;> simp [code, phaseCode], fun coded => ?_⟩
  obtain one | two | three : phaseBits image p = 1 ∨ phaseBits image p = 2 ∨ phaseBits image p = 3 := by omega
  · exact ⟨.visit, one⟩
  · exact ⟨.routine, two⟩
  · exact ⟨.bulk, three⟩

/-- The queue that the two bits of a phase name. -/
theorem imagePhase_coded (coded : phaseBits image p ≠ 0) : (imagePhase image p.val).getD .visit =
    if phaseBits image p = 1 then .visit else if phaseBits image p = 2 then .routine else .bulk := by
  obtain ⟨q, named⟩ := Option.isSome_iff_exists.1 (imagePhase_isSome_iff.2 coded)
  rw [named, imagePhase_eq_some_iff.1 named]
  cases q <;> rfl

end

section
variable {image : List Byte}

theorem contains_imagePhase_iff {q : PhaseQueue} :
    ((List.range 16).map (imagePhase image)).contains (some q) = true ↔ ∃ p, phaseBits image p = phaseCode q := by
  simp only [List.contains_iff_mem, List.mem_map, List.mem_range, ← imagePhase_eq_some_iff, Fin.exists_iff, exists_prop]

theorem all_imagePhase_iff : ((List.range 16).map (imagePhase image)).all Option.isSome = true ↔
    ∀ p, phaseBits image p ≠ 0 := by
  simp only [List.all_eq_true, List.forall_mem_map, List.mem_range, ← imagePhase_isSome_iff, Fin.forall_iff]

theorem imagePhaseTable_eq [Decidable (namesPhases image)] : imagePhaseTable image = if namesPhases image then
    some (Vector.ofFn fun p : Fin 16 => (imagePhase image p.val).getD .visit) else none := by
  unfold imagePhaseTable
  simp only [Bool.and_eq_true, contains_imagePhase_iff, all_imagePhase_iff, and_assoc]
  exact if_congr Iff.rfl rfl rfl

/-- The phase table of an image that names every phase and every queue is its own (R156). -/
theorem settingsOfImage_phases_named (named : namesPhases image) :
    (settingsOfImage image).phaseFromImage = true ∧ ∀ p : Fin 16, (settingsOfImage image).phaseTable[p] =
      if phaseBits image p = 1 then .visit else if phaseBits image p = 2 then .routine else .bulk := by
  classical
  have table := imagePhaseTable_eq (image := image)
  rw [if_pos named] at table
  refine ⟨by rw [settingsOfImage, table]; rfl, fun p => ?_⟩
  rw [← imagePhase_coded (named.1 p), settingsOfImage]
  simp [table]

/-- Any other image has the default phase table (R156). -/
theorem settingsOfImage_phases_replaced (unnamed : ¬ namesPhases image) :
    (settingsOfImage image).phaseFromImage = false ∧ (settingsOfImage image).phaseTable = defaultPhaseTable := by
  classical
  have table := imagePhaseTable_eq (image := image)
  rw [if_neg unnamed] at table
  exact ⟨by rw [settingsOfImage, table]; rfl, by rw [settingsOfImage, table]; rfl⟩

theorem defaultPhaseTable_phase : ∀ p : Fin 16, defaultPhaseTable[p] =
    if p.val % 4 = 1 then .routine else if p.val % 4 = 3 then .bulk else .visit := by decide

theorem defaultPhaseTable_names (q : PhaseQueue) : ∃ p : Fin 16, defaultPhaseTable[p] = q := by
  cases q with
  | visit => exact ⟨0, rfl⟩
  | routine => exact ⟨1, rfl⟩
  | bulk => exact ⟨3, rfl⟩

theorem settingsOfImage_names_queues (image : List Byte) (q : PhaseQueue) :
    ∃ p : Fin 16, (settingsOfImage image).phaseTable[p] = q := by
  by_cases named : namesPhases image
  · obtain ⟨-, phases⟩ := settingsOfImage_phases_named named
    obtain ⟨-, ⟨v, visit⟩, ⟨r, routine⟩, ⟨b, bulk⟩⟩ := named
    cases q with
    | visit => exact ⟨v, by rw [phases, visit]; rfl⟩
    | routine => exact ⟨r, by rw [phases, routine]; rfl⟩
    | bulk => exact ⟨b, by rw [phases, bulk]; rfl⟩
  · rw [(settingsOfImage_phases_replaced named).2]
    exact defaultPhaseTable_names q

end

/-! ### The rates and the site name (R118, R189) -/

theorem settingsOfImage_rate (image : List Byte) (k : Category) : (settingsOfImage image).initialRates[k] =
    if fromBe (field image (0x31 + 3 * k.val) 3) ≤ 999999 then some (fromBe (field image (0x31 + 3 * k.val) 3))
    else none := Vector.getElem_ofFn _

theorem settingsOfImage_rate_le {image : List Byte} {k : Category} {r : Nat}
    (rated : (settingsOfImage image).initialRates[k] = some r) : r ≤ 999999 := by
  rw [settingsOfImage_rate] at rated
  split at rated
  next small => exact Option.some.inj rated ▸ small
  next => cases rated

theorem settingsOfImage_input (image : List Byte) (i : Fin 14) :
    (settingsOfImage image).inputs[i] = imageInput image i.val := Vector.getElem_ofFn _

theorem imageCharacter_inRange (b : Byte) : 0x20 ≤ (imageCharacter b).toNat ∧ (imageCharacter b).toNat ≤ 0x7E := by
  unfold imageCharacter
  split
  next printable => exact printable
  next => decide

/-- Settles O7: value by value, by the clamp of its kind, and the phase table by whether the image names every queue. -/
theorem configuredValuesLieInRange : Obligations.ConfiguredValuesLieInRange := by
  intro image c number clamped phase named
  have inRange {start len lo hi : Nat} (ordered : lo ≤ hi) := imageNat_inRange image start len ordered
  have clamps {start len lo hi : Nat} (ordered : lo ≤ hi) := imageNat_eq image start len ordered
  refine ⟨⟨inRange (by decide), inRange (by decide), inRange (by decide), inRange (by decide), inRange (by decide),
      inRange (by decide), inRange (by decide), inRange (by decide), inRange (by decide), inRange (by decide),
      inRange (by decide), inRange (by decide), fun i => ?_, imageChannelMap_cells image,
      fun k r => settingsOfImage_rate_le, settingsOfImage_names_queues image, fun length => ?_, fun b printed => ?_⟩,
    ⟨clamps (by decide), clamps (by decide), clamps (by decide), clamps (by decide), clamps (by decide),
      clamps (by decide), clamps (by decide), clamps (by decide), clamps (by decide), clamps (by decide),
      clamps (by decide), imageFlag_iff image 0x0C, clamps (by decide), roadEnd_b_iff image, imageFlag_iff image 0x0F⟩,
    fun i => (settingsOfImage_input image i).trans (imageInput_eq image i.val), imageChannelMap_kept,
    imageChannelMap_replaced, settingsOfImage_phases_named, fun unnamed => ?_, settingsOfImage_rate image, rfl⟩
  · rw [settingsOfImage_input]
    exact imageInput_inRange image i.val
  · show ((field image 0x61 16).map imageCharacter).length = 16
    rw [List.length_map, length_field (by omega)]
  · obtain ⟨a, -, rfl⟩ := List.mem_map.1 printed
    exact imageCharacter_inRange a
  · obtain ⟨byDefault, table⟩ := settingsOfImage_phases_replaced unnamed
    exact ⟨byDefault, fun p => by rw [table]; exact defaultPhaseTable_phase p⟩

end Sys2Proof.Machine
end

section
/-! PROOFS. The issue of a ticket (R129 to R134): the work of the slot, the entry into the queue at the commit's completion,
the copies placed, and the flags and the TICKET-COPY of a record. -/

namespace Sys2Proof.Machine

/-! ### The issue in the slot is worked (R131) -/

theorem TicketState.noFreePlace_iff (t : TicketState) :
    (t.committing.isSome || decide (ticketPlaces ≤ t.placesTaken)) = true ↔
      t.committing.isSome = true ∨ 4 ≤ t.queue.length := by
  rw [Bool.or_eq_true, decide_eq_true_iff, TicketState.placesTaken, ticketPlaces]
  cases t.committing.isSome <;> simp

section
variable {s : State}

theorem State.workOnce_empty (empty : s.tickets.slot = none) : s.workOnce = s := by simp only [State.workOnce, empty]

section
variable {q : IssueRequest} (slot : s.tickets.slot = some q)
include slot

theorem State.workOnce_waits (waits : s.tickets.committing.isSome = true ∨ 4 ≤ s.tickets.queue.length) :
    s.workOnce = s := by
  simp only [State.workOnce, slot]
  exact if_pos (s.tickets.noFreePlace_iff.2 waits)

variable (free : ¬ (s.tickets.committing.isSome = true ∨ 4 ≤ s.tickets.queue.length))
include free

theorem State.workOnce_refuses (spent : 99999999 ≤ s.retained.lastTicket) : s.workOnce =
    ({ s with tickets := { s.tickets with slot := s.tickets.waiting, waiting := none } }).post
      (.ticketAnswer q.visit .refused) := by
  simp only [State.workOnce, slot]
  exact (if_neg (mt s.tickets.noFreePlace_iff.1 free)).trans (if_pos spent)

theorem State.workOnce_numbers (left : ¬ 99999999 ≤ s.retained.lastTicket) : s.workOnce =
    ({ s with tickets := { s.tickets with
        committing := some (newTicket (s.retained.lastTicket + 1) s.own s.retained.unverified q) } }).askCommit
      (.ticket (s.retained.lastTicket + 1)) := by
  simp only [State.workOnce, slot]
  exact (if_neg (mt s.tickets.noFreePlace_iff.1 free)).trans (if_neg left)

end

end

/-- What the work of the slot leaves: nothing is done without a free place, the next number is committed, and at the last
number the issue is refused, and the waiting request with it. -/
def State.worked (t : State) : State := match t.tickets.slot with
  | none => t
  | some q =>
    if t.tickets.committing.isSome = true ∨ 4 ≤ t.tickets.queue.length then t
    else if 99999999 ≤ t.retained.lastTicket then { t with
      tickets := { t.tickets with slot := none, waiting := none }
      posted := t.posted ++ [.event (.ticketAnswer q.visit .refused)] ++ (match t.tickets.waiting with
        | none => []
        | some w => [.event (.ticketAnswer w.visit .refused)]) }
    else { t with
      tickets := { t.tickets with
        committing := some (newTicket (t.retained.lastTicket + 1) t.own t.retained.unverified q) }
      retained := { t.retained with commits := t.retained.commits ++ [.ticket (t.retained.lastTicket + 1)] } }

/-- The second work finds a commit running after a number was given, and the waiting request after a refusal. -/
theorem State.workIssue_eq_worked (s : State) : s.workIssue = s.worked := by
  unfold State.workIssue State.worked
  cases slot : s.tickets.slot with
  | none => rw [State.workOnce_empty slot, State.workOnce_empty slot]
  | some q =>
    dsimp only
    by_cases waits : s.tickets.committing.isSome = true ∨ 4 ≤ s.tickets.queue.length
    · rw [State.workOnce_waits slot waits, State.workOnce_waits slot waits, if_pos waits]
    by_cases spent : 99999999 ≤ s.retained.lastTicket
    · rw [State.workOnce_refuses slot waits spent, if_neg waits, if_pos spent]
      cases waiting : s.tickets.waiting with
      | none =>
        rw [State.workOnce_empty rfl, List.append_nil]
        rfl
      | some w => exact State.workOnce_refuses (q := w) rfl waits spent
    · rw [State.workOnce_numbers slot waits spent, if_neg waits, if_neg spent]
      exact State.workOnce_waits slot (.inl rfl)

/-! ### The copies (R134) -/

section
variable {s : State}

theorem State.placeOldestCopy_none (placed : ∀ e ∈ s.tickets.queue, e.copyPlaced = true) : s.placeOldestCopy = s := by
  have noneWaits : s.tickets.queue.find? (fun e => !e.copyPlaced) = none :=
    List.find?_eq_none.2 fun e mem => by simp [placed e mem]
  simp only [State.placeOldestCopy, noneWaits]

/-- R158: an OFFLINE station discards the frame that is answered PLACED. -/
theorem State.placeOldestCopy_offline (off : s.offline = true) {before behind : List TicketEntry} {e : TicketEntry}
    (queue : s.tickets.queue = before ++ e :: behind) (older : ∀ b ∈ before, b.copyPlaced = true)
    (waits : e.copyPlaced = false) : s.placeOldestCopy = { s with
      tickets := { s.tickets with queue := before ++ { e with copyPlaced := true } :: behind } } := by
  have noneWaits : ∀ b ∈ before, (!b.copyPlaced) = false := fun b mem => by simp [older b mem]
  have found := find_append (p := fun e => !e.copyPlaced) (e := e) (behind := behind) noneWaits (by simp [waits])
  have changed := changeFirst_append (p := fun e => !e.copyPlaced) (fun e => { e with copyPlaced := true })
    (e := e) (behind := behind) noneWaits (by simp [waits])
  simp only [State.placeOldestCopy, queue, found, State.place_offline off, changed, if_true]

theorem State.enterQueue_offline (off : s.offline = true) (t : TicketRecord) : s.enterQueue t = { s with
    tickets := { s.tickets with queue := s.tickets.queue ++
      [{ ticket := t, printState := .queued, copyPlaced := decide (∀ e ∈ s.tickets.queue, e.copyPlaced = true) }] } } := by
  by_cases older : ∀ e ∈ s.tickets.queue, e.copyPlaced = true
  · have tries : s.enterQueue t = (s.queues t).placeOldestCopy := if_pos (by simpa using older)
    rw [tries, State.placeOldestCopy_offline (s := s.queues t) off rfl older rfl, decide_eq_true older]
    rfl
  · have waits : s.enterQueue t = s.queues t := if_neg (by simpa using older)
    rw [waits, decide_eq_false older]
    rfl

/-- `enterQueue_eq` with the OFFLINE station, which has no queue to be full. -/
theorem State.enterQueue_takes (s : State) (t : TicketRecord) :
    let copied := (∀ e ∈ s.tickets.queue, e.copyPlaced = true) ∧ (s.offline = true ∨ s.link.bulk.frames.length < 16)
    s.enterQueue t = { s with
      link := if copied ∧ s.offline = false then s.linkAfter (ticketCopyFrame t) else s.link
      tickets := { s.tickets with
        queue := s.tickets.queue ++ [{ ticket := t, printState := .queued, copyPlaced := decide copied }] } } := by
  cases off : s.offline with
  | true => simp [State.enterQueue_offline off]
  | false => simp [State.enterQueue_eq off]

/-- What stands once the number is committed, before the printer is looked at (R131). -/
theorem State.ticketCommitted_eq (s : State) (r : TicketRecord) :
    let copied := (∀ e ∈ s.tickets.queue, e.copyPlaced = true) ∧ (s.offline = true ∨ s.link.bulk.frames.length < 16)
    s.ticketCommitted r = { s with
      link := if copied ∧ s.offline = false then s.linkAfter (ticketCopyFrame r) else s.link
      tickets := { s.tickets with
        queue := s.tickets.queue ++ [{ ticket := r, printState := .queued, copyPlaced := decide copied }]
        committing := none, last := some r, slot := s.tickets.waiting, waiting := none }
      posted := s.posted ++ [.event (.ticketAnswer r.visit (.queued r.number))] } := by
  intro copied
  rw [State.ticketCommitted, State.enterQueue_takes]
  rfl

end

/-! ### The commands of an issue (R130, R131, R134) -/

/-- The commit of a ticket number has completed, with those behind it left (R131, R187). -/
def State.numbered (s : State) (n : Nat) (rest : List Commit) : State :=
  { s with retained := { s.retained with lastTicket := n, commits := rest } }

section
variable {s : State} (live : s.live = true)
include live

section
variable {q : IssueRequest}

theorem exec_issue_empty (empty : s.tickets.slot = none) : exec (.issue q) s = .next (State.workIssue
    { s.took (.issue q) with tickets := { s.tickets with slot := some q } }) := by
  show execIssue q s = _
  rw [execIssue, State.whenLive_live _ (by simpa using live)]
  simp only [State.took_tickets, empty]

theorem exec_issue_taken {r : IssueRequest} (slot : s.tickets.slot = some r) : exec (.issue q) s = .next (
    if r.visit = q.visit then s.took (.issue q)
    else { s.took (.issue q) with tickets := { s.tickets with waiting := some q } }) := by
  show execIssue q s = _
  rw [execIssue, State.whenLive_live _ (by simpa using live)]
  simp only [State.took_tickets, slot]

end

theorem exec_issueWithdraw {w : IssueRequest} (waiting : s.tickets.waiting = some w) (n : VisitNumber) :
    exec (.issueWithdraw n) s = .next (if w.visit = n then { s.took (.issueWithdraw n) with
        tickets := { s.tickets with waiting := none } }
      else s.took (.issueWithdraw n)) := by
  show execIssueWithdraw n s = _
  rw [execIssueWithdraw, State.whenLive_live _ (by simpa using live)]
  simp only [State.took_tickets, waiting, Option.map_some, Option.some.injEq]

theorem exec_ticketCommitDone {n : Nat} {rest : List Commit} {r : TicketRecord}
    (commits : s.retained.commits = .ticket n :: rest) (committing : s.tickets.committing = some r) :
    exec .ticketCommitDone s = .next ((s.numbered n rest).ticketCommitted r).tryPrint.workIssue := by
  show execTicketCommitDone s = _
  rw [execTicketCommitDone, State.whenLive_live _ live]
  simp only [commits, List.head?_cons, List.drop_one, List.tail_cons, committing]
  rfl

theorem exec_bulkQueueDeparture : exec .bulkQueueDeparture s =
    .next (s.took .bulkQueueDeparture).placeOldestCopy.leaveQueue := by
  show execBulkQueueDeparture s = _
  rw [execBulkQueueDeparture, State.whenLive_live _ (by simpa using live)]

end

/-! ### The record and its copy (R129, R134, 11.3) -/

theorem newTicketFlags_timeNotSet_iff (unverified : Bool) (q : IssueRequest) :
    (newTicketFlags unverified q).timeNotSet = true ↔ q.inbound.time = none ∨
      (q.kind = .twoPass ∧ ∀ w, q.outbound = some w → w.time = none) := by
  cases outbound : q.outbound <;> simp [newTicketFlags, outbound]

theorem newTicketFlags_tareOver_iff (unverified : Bool) (q : IssueRequest) :
    (newTicketFlags unverified q).tareOver = true ↔ q.tareOver = true ∧ q.kind = .storedTare := by simp [newTicketFlags]

/-- The weight and the depot time of an outbound weighing, or none of them (11.3). -/
theorem outboundBytes_eq (o : Option Weighing) : optBytes 3 (o.map (·.weight)) ++ timeBytes (o.bind (·.time)) =
    match o with
    | none => List.replicate 8 0xFF#8
    | some ⟨weight, none, _⟩ => beBytes 3 weight ++ List.replicate 5 0xFF#8
    | some ⟨weight, some time, _⟩ => beBytes 3 weight ++ beBytes 2 time.day ++ beBytes 3 time.second := by
  match o with
  | none => rfl
  | some ⟨_, none, _⟩ => rfl
  | some ⟨_, some _, _⟩ => exact (List.append_assoc _ _ _).symm

theorem loadByte_eq (d : LoadDirection) : byteOf d.code = match d with
    | .nil => 0#8
    | .delivery => 1#8
    | .collection => 2#8 := by cases d <;> rfl

/-- The number, the visit and the flags stand ahead of the outbound weighing (11.3). -/
theorem ticketCopyFrame_payload (t : TicketRecord) : (ticketCopyFrame t).payload =
    beBytes 4 t.number ++ visitNumberBytes t.visit ++
      [byteOf (bit (t.kind == .storedTare) 7 + bit t.flags.reprintCopy 6 + bit t.flags.notForTrade 5 +
        bit t.flags.belowMin 4 + bit t.flags.timeNotSet 3 + bit t.flags.tareOver 2 + bit t.flags.manualToken 1)] ++
      (optBytes 3 (t.outbound.map (·.weight)) ++ timeBytes (t.outbound.bind (·.time))) ++ beBytes 3 t.net ++
      [byteOf t.load.code] ++ beBytes 4 t.charge := by
  simp only [ticketCopyFrame, List.append_assoc]

/-- Settles O49: the work of the slot by whether a place is free and a number left, the entry into the queue by what the
copies ahead and the BULK queue allow, and the departure by the oldest entry whose copy waits. -/
theorem ticketIsIssuedByItsCommit : Obligations.TicketIsIssuedByItsCommit := by
  unfold Obligations.TicketIsIssuedByItsCommit
  intro worked
  have works : State.workIssue = worked := funext State.workIssue_eq_worked
  clear_value worked
  subst works
  refine ⟨fun s q live => ?_, fun s n rest r live commits committing => ?_, fun s live on => ?_,
    fun k station unverified q => ?_, fun t => ?_⟩
  · refine ⟨exec_issue_empty live, fun r slot => ⟨fun same => ?_, fun other => ?_⟩,
      fun w waiting => ⟨?_, fun n other => ?_⟩⟩
    · exact (exec_issue_taken live slot).trans (congrArg _ (if_pos same))
    · exact (exec_issue_taken live slot).trans (congrArg _ (if_neg other))
    · exact (exec_issueWithdraw live waiting _).trans (congrArg _ (if_pos rfl))
    · exact (exec_issueWithdraw live waiting n).trans (congrArg _ (if_neg other))
  · intro copied queue entered
    have enters : (s.numbered n rest).ticketCommitted r = entered := by
      rw [State.ticketCommitted_eq, State.linkAfter_beside (s := s) (t := s.numbered n rest) _ rfl rfl rfl]
      rfl
    have prints {u : State} (h : entered.tryPrint = u) : exec .ticketCommitDone s = .next u.workIssue := by
      rw [exec_ticketCommitDone live commits committing, enters, h]
    have samePrinting : entered.tickets.isPrinting = s.tickets.isPrinting := by
      simp [entered, queue, TicketState.isPrinting]
    refine ⟨fun h => prints (State.tryPrint_waits (s := entered) ?_), fun before e behind ready idle parts none first =>
      prints (State.tryPrint_prints (s := entered) ready (samePrinting.trans idle) parts none first)⟩
    rwa [samePrinting]
  · intro i left
    have departs {u : State} (h : (s.took i).placeOldestCopy = u) : exec i s = .next u.leaveQueue := by
      rw [exec_bulkQueueDeparture live, h]
    refine ⟨fun placed => departs (State.placeOldestCopy_none (s := s.took i) placed),
      fun before e behind queue older waits => ⟨fun room => ?_, fun full =>
        departs (State.placeOldestCopy_full (s := s.took i) on queue older waits full)⟩⟩
    rw [departs (State.placeOldestCopy_placed (s := s.took i) on queue older waits room),
      State.linkAfter_beside (s := s) (t := s.took i) _ rfl rfl rfl]
    rfl
  · exact ⟨rfl, rfl, rfl, rfl, Iff.rfl, Iff.rfl, newTicketFlags_timeNotSet_iff unverified q,
      newTicketFlags_tareOver_iff unverified q, Iff.rfl, rfl⟩
  · intro flag
    refine congrArg (Frame.mk .ticketCopy) ((ticketCopyFrame_payload t).trans ?_)
    rw [outboundBytes_eq, loadByte_eq]
    rfl

end Sys2Proof.Machine
end

section
/-! PROOFS. The printer's answers and the answer limit (R131, R133, R135 to R138). -/

namespace Sys2Proof.Machine

/-! ### The printer state and the entry that prints (R133, R135, R136) -/

theorem TicketState.isPrinting_iff (t : TicketState) :
    t.isPrinting = true ↔ ∃ x ∈ t.queue, x.printState = .printing := by simp [TicketState.isPrinting]

theorem TicketState.isPrinting_false {t : TicketState} (others : ∀ x ∈ t.queue, x.printState ≠ .printing) :
    t.isPrinting = false :=
  Bool.eq_false_iff.2 (mt t.isPrinting_iff.1 fun ⟨x, mem, printing⟩ => others x mem printing)

section
variable {s : State}

theorem State.setPrinter_changes {p : PrinterState} (h : s.tickets.printer ≠ p) : s.setPrinter p = { s with
    tickets := { s.tickets with printer := p }, posted := s.posted ++ [.event (.lanePrinterState p)] } := if_neg h

theorem State.tryPrint_noneQueued (others : ∀ x ∈ s.tickets.queue, x.printState ≠ .queued) : s.tryPrint = s := by
  have noneFound : s.tickets.queue.find? TicketEntry.isQueued = none :=
    List.find?_eq_none.2 fun x mem => by simpa [TicketEntry.isQueued] using others x mem
  simp only [State.tryPrint, noneFound, ite_self]

theorem State.endPrinting_first {before behind : List TicketEntry} {e : TicketEntry}
    (queue : s.tickets.queue = before ++ e :: behind) (others : ∀ b ∈ before, b.printState ≠ .printing)
    (first : e.printState = .printing) (p : PrintState) : s.endPrinting p = { s with
      tickets := { s.tickets with queue := before ++ { e with printState := p } :: behind } } := by
  have changed := changeFirst_append (p := TicketEntry.isPrinting) (fun e => e.to p) (before := before) (e := e)
    (behind := behind) (fun b mem => beq_eq_false_iff_ne.2 (others b mem))
    (by simp [TicketEntry.isPrinting, first])
  rw [State.endPrinting, queue, changed]
  rfl

/-! ### A change to READY (R137) -/

section
variable (wrong : s.tickets.printer ≠ .ready)
include wrong

theorem State.printerToReady_noneQueued (others : ∀ x ∈ s.tickets.queue, x.printState ≠ .queued) :
    s.printerToReady = { s with
      tickets := { s.tickets with printer := .ready, answerLimit := none }
      posted := s.posted ++ [.event (.lanePrinterState .ready)] } := by
  rw [State.printerToReady, State.setPrinter_changes wrong]
  exact State.tryPrint_noneQueued (s := State.stopAnswerLimit _) others

theorem State.printerToReady_prints (idle : s.tickets.isPrinting = false) {before behind : List TicketEntry}
    {e : TicketEntry} (queue : s.tickets.queue = before ++ e :: behind) (others : ∀ b ∈ before, b.printState ≠ .queued)
    (first : e.printState = .queued) : s.printerToReady = { s with
      tickets := { s.tickets with
        printer := .ready, answerLimit := some s.cfg.printerLimit
        queue := before ++ { e with printState := .printing } :: behind }
      lines := { s.lines with printer := some (.print e.ticket) }
      posted := s.posted ++ [.event (.lanePrinterState .ready)] } := by
  rw [State.printerToReady, State.setPrinter_changes wrong]
  exact State.tryPrint_prints (s := (State.stopAnswerLimit _)) rfl idle queue others first

/-- R137: the limit runs on, and the state is told where it is a change. -/
theorem State.printerTrouble_wrong (p : PrinterState) : s.printerTrouble p = if s.tickets.printer = p then s else { s with
    tickets := { s.tickets with printer := p }, posted := s.posted ++ [.event (.lanePrinterState p)] } := if_neg wrong

end

/-! ### Trouble in READY (R136, R138) -/

section
variable (ready : s.tickets.printer = .ready)
include ready

theorem State.printerTrouble_idle (idle : s.tickets.isPrinting = false) {p : PrinterState} (trouble : p ≠ .ready) :
    s.printerTrouble p = { s with
      tickets := { s.tickets with printer := p, answerLimit := some s.cfg.printerLimit }
      posted := s.posted ++ [.event (.lanePrinterState p)] } := by
  rw [State.printerTrouble, if_pos ready, if_neg (by simp [idle]),
    State.setPrinter_changes (by simpa [ready] using trouble.symm)]
  rfl

theorem State.printerTrouble_printing (printing : s.tickets.isPrinting = true) (p : PrinterState) :
    s.printerTrouble p = s.printFailed p := by rw [State.printerTrouble, if_pos ready, if_pos printing]

theorem State.printFailed_first {before behind : List TicketEntry} {e : TicketEntry}
    (queue : s.tickets.queue = before ++ e :: behind) (others : ∀ b ∈ before, b.printState ≠ .printing)
    (first : e.printState = .printing) {p : PrinterState} (trouble : p ≠ .ready) : s.printFailed p = { s with
      tickets := { s.tickets with
        queue := before ++ { e with printState := .queued } :: behind, printer := p
        answerLimit := some s.cfg.printerLimit }
      posted := s.posted ++ [.event (.lanePrinterState p)] } := by
  rw [State.printFailed, State.endPrinting_first queue others first,
    State.setPrinter_changes (by simpa [ready] using trouble.symm)]
  rfl

end

/-! ### The end of a print (R133, R135, R136) -/

section
variable {before behind : List TicketEntry} {e : TicketEntry} (printed : ∀ b ∈ before, b.printState = .printed)
  (first : e.printState = .printing)
include printed first

theorem State.printEnds_last (queue : s.tickets.queue = before ++ [e]) :
    (s.endPrinting .printed).stopAnswerLimit.tryPrint = { s with tickets := { s.tickets with
      queue := before ++ [{ e with printState := .printed }], answerLimit := none } } := by
  rw [State.endPrinting_first queue (fun b mem => by simp [printed b mem]) first]
  refine State.tryPrint_noneQueued (s := State.stopAnswerLimit _) fun x mem => ?_
  obtain mem | mem := List.mem_append.1 mem
  · simp [printed x mem]
  · simp [List.mem_singleton.1 mem]

/-- The next entry prints, since none that stands ahead or behind it does. -/
theorem State.printEnds_next {f : TicketEntry} (ready : s.tickets.printer = .ready)
    (queue : s.tickets.queue = before ++ e :: f :: behind) (next : f.printState = .queued)
    (queued : ∀ r ∈ behind, r.printState = .queued) :
    (s.endPrinting .printed).stopAnswerLimit.tryPrint = { s with
      tickets := { s.tickets with
        queue := before ++ { e with printState := .printed } :: { f with printState := .printing } :: behind
        answerLimit := some s.cfg.printerLimit }
      lines := { s.lines with printer := some (.print f.ticket) } } := by
  rw [State.endPrinting_first queue (fun b mem => by simp [printed b mem]) first]
  have idle : ∀ x ∈ before ++ { e with printState := .printed } :: f :: behind, x.printState ≠ .printing := by
    simp +contextual [or_imp, printed, next, queued]
  have ahead : ∀ x ∈ before ++ [{ e with printState := .printed }], x.printState ≠ .queued := by
    simp +contextual [or_imp, printed]
  have prints := State.tryPrint_prints (s := State.stopAnswerLimit { s with tickets := { s.tickets with
      queue := before ++ { e with printState := .printed } :: f :: behind } }) (e := f) (behind := behind)
    ready (TicketState.isPrinting_false idle) (List.append_cons before _ _) ahead next
  simpa using prints

end

end

/-! ### The printer's commands (R136 to R138) -/

section
variable {s : State} (live : s.live = true)
include live

theorem exec_printerReady : exec .printerReady s =
    .next (if s.tickets.printer = .ready then s else s.printerToReady) := by
  show execPrinterReady s = _
  rw [execPrinterReady, State.whenLive_live _ live]

theorem exec_printerPaperOut : exec .printerPaperOut s = .next (s.printerTrouble .paperOut) := by
  show execPrinterPaperOut s = _
  rw [execPrinterPaperOut, State.whenLive_live _ live]

theorem exec_printerFault : exec .printerFault s = .next (s.printerTrouble .fault) := by
  show execPrinterFault s = _
  rw [execPrinterFault, State.whenLive_live _ live]

theorem exec_printerDone_ready (ready : s.tickets.printer = .ready) : exec .printerDone s = .next (
    if s.tickets.isPrinting then ((s.endPrinting .printed).stopAnswerLimit.tryPrint).leaveQueue else s) := by
  show execPrinterDone s = _
  rw [execPrinterDone, State.whenLive_live _ live, ready]

theorem exec_printerBusy_ready (ready : s.tickets.printer = .ready) : exec .printerBusy s =
    .next (if s.tickets.isPrinting then s.startAnswerLimit else s) := by
  show execPrinterBusy s = _
  rw [execPrinterBusy, State.whenLive_live _ live, ready]

theorem exec_printerDone_absent (absent : s.tickets.printer = .absent) : exec .printerDone s = .next s.printerToReady := by
  show execPrinterDone s = _
  rw [execPrinterDone, State.whenLive_live _ live, absent]

theorem exec_printerBusy_absent (absent : s.tickets.printer = .absent) : exec .printerBusy s = .next s.printerToReady := by
  show execPrinterBusy s = _
  rw [execPrinterBusy, State.whenLive_live _ live, absent]

theorem exec_printerDone_stopped (stopped : s.tickets.printer = .paperOut ∨ s.tickets.printer = .fault) :
    exec .printerDone s = .next s := by
  show execPrinterDone s = _
  rw [execPrinterDone, State.whenLive_live _ live]
  obtain h | h := stopped <;> rw [h]

theorem exec_printerBusy_stopped (stopped : s.tickets.printer = .paperOut ∨ s.tickets.printer = .fault) :
    exec .printerBusy s = .next s.startAnswerLimit := by
  show execPrinterBusy s = _
  rw [execPrinterBusy, State.whenLive_live _ live]
  obtain h | h := stopped <;> rw [h]

theorem exec_printerAnswerLimitExpiry (runs : s.tickets.answerLimit.isSome = true) :
    exec .printerAnswerLimitExpiry s = .next (if s.tickets.printer = .ready then
        if s.tickets.isPrinting then s.printFailed .fault else s
      else (s.sendPrinter .statusAsk).startAnswerLimit) := by
  show execPrinterAnswerLimitExpiry s = _
  rw [execPrinterAnswerLimitExpiry, State.whenLive_live _ live, if_neg (by simpa [Option.isSome_iff_ne_none] using runs)]

end

theorem PrinterState.stopped_of_ne {p : PrinterState} (notReady : p ≠ .ready) (notAbsent : p ≠ .absent) :
    p = .paperOut ∨ p = .fault := by
  cases p with
  | ready => exact absurd rfl notReady
  | absent => exact absurd rfl notAbsent
  | paperOut => exact .inl rfl
  | fault => exact .inr rfl

/-- Settles O50: each answer by the printer state, and in READY by the entry that prints. -/
theorem printerAnswersAreTaken : Obligations.PrinterAnswersAreTaken := by
  unfold Obligations.PrinterAnswersAreTaken
  intro worked
  have works : State.workIssue = worked := funext State.workIssue_eq_worked
  clear_value worked
  subst works
  refine ⟨fun s before e rest live ready queue printed first queued => ?_, fun s live ready idle => ?_,
    fun s live wrong => ?_⟩
  · intro full back left
    have printing : s.tickets.isPrinting = true := s.tickets.isPrinting_iff.2 ⟨e, by simp [queue], first⟩
    have others : ∀ b ∈ before, b.printState ≠ .printing := fun b mem => by simp [printed b mem]
    have fails {p : PrinterState} (trouble : p ≠ .ready) := State.printFailed_first ready queue others first trouble
    have troubles {p : PrinterState} (trouble : p ≠ .ready) :=
      (State.printerTrouble_printing ready printing p).trans (fails trouble)
    have done {u : State} (h : (s.endPrinting .printed).stopAnswerLimit.tryPrint = u) :
        exec .printerDone s = .next u.leaveQueue := by
      rw [exec_printerDone_ready live ready, if_pos printing, h]
    refine ⟨fun last => ?_, fun f behind next => ?_, ?_, ?_, ?_, ?_, fun runs => ?_⟩
    · subst last
      exact (done (State.printEnds_last printed first queue)).trans rfl
    · subst next
      obtain ⟨nextQueued, behindQueued⟩ := List.forall_mem_cons.1 queued
      exact (done (State.printEnds_next printed first ready queue nextQueued behindQueued)).trans rfl
    · rw [exec_printerBusy_ready live ready, if_pos printing]
      rfl
    · rw [exec_printerReady live, if_pos ready]
    · exact (exec_printerPaperOut live).trans (congrArg _ (troubles (by decide)))
    · exact (exec_printerFault live).trans (congrArg _ (troubles (by decide)))
    · rw [exec_printerAnswerLimitExpiry live runs, if_pos ready, if_pos printing]
      exact congrArg _ (fails (by decide))
  · intro wrong
    refine ⟨?_, ?_, ?_, ?_, ?_⟩
    · rw [exec_printerReady live, if_pos ready]
    · rw [exec_printerDone_ready live ready, if_neg (by simp [idle])]
    · rw [exec_printerBusy_ready live ready, if_neg (by simp [idle])]
    · exact (exec_printerPaperOut live).trans (congrArg _ (State.printerTrouble_idle ready idle (by decide)))
    · exact (exec_printerFault live).trans (congrArg _ (State.printerTrouble_idle ready idle (by decide)))
  · intro turned toReady
    refine ⟨fun idle i answer => ?_, fun notAbsent => ?_, ?_, ?_, fun runs => ?_⟩
    · have changes : exec i s = .next s.printerToReady := by
        obtain rfl | ⟨absent, rfl | rfl⟩ := answer
        · rw [exec_printerReady live, if_neg wrong]
        · exact exec_printerDone_absent live absent
        · exact exec_printerBusy_absent live absent
      exact ⟨fun others => changes.trans (congrArg _ (State.printerToReady_noneQueued wrong others)),
        fun before e rest queue others first =>
          changes.trans (congrArg _ (State.printerToReady_prints wrong idle queue others first))⟩
    · have stopped := PrinterState.stopped_of_ne wrong notAbsent
      exact ⟨exec_printerDone_stopped live stopped, exec_printerBusy_stopped live stopped⟩
    · exact (exec_printerPaperOut live).trans (congrArg _ (State.printerTrouble_wrong wrong .paperOut))
    · exact (exec_printerFault live).trans (congrArg _ (State.printerTrouble_wrong wrong .fault))
    · rw [exec_printerAnswerLimitExpiry live runs, if_neg wrong]
      rfl

end Sys2Proof.Machine
end

section
/-! PROOFS. The sender of the yard link (R144 to R148, R154, R155, R158): the frame offered at the line FREE, and what a lost
arbitration, a failed attempt and a delivery leave of it. -/

namespace Sys2Proof.Machine

/-! ### The frame to offer (R155) -/

theorem LinkState.frames_of_allEmpty {l : LinkState} (empty : l.allEmpty = true) (q : QueueName) :
    (l.queue q).frames = [] := by
  simp only [LinkState.allEmpty, Bool.and_eq_true, List.isEmpty_iff] at empty
  obtain ⟨⟨⟨urgent, visit⟩, routine⟩, bulk⟩ := empty
  cases q <;> assumption

section
variable {l : LinkState} {table : Vector PhaseQueue 16}

theorem choosePhase_none (empty : l.allEmpty = true) : choosePhase table l = none :=
  List.find?_eq_none.2 fun p _ => by simp [l.frames_of_allEmpty empty]

theorem choosePhase_first {j : Fin 16}
    (before : ∀ k : Fin 16, k < j → (l.queue table[l.pointer + k].name).frames = [])
    (holds : (l.queue table[l.pointer + j].name).frames ≠ []) : choosePhase table l = some (l.pointer + j) := by
  refine List.find?_eq_some_iff_getElem.2 ⟨by simpa using holds, j.val, by simp, by simp, fun k earlier => ?_⟩
  simpa using before ⟨k, earlier.trans j.isLt⟩ earlier

theorem LinkState.start_allEmpty (empty : l.allEmpty = true) : l.start table = l := by
  have noUrgent : l.urgent.frames = [] := l.frames_of_allEmpty empty .urgent
  simp only [LinkState.start, noUrgent, List.head?_nil, choosePhase_none empty]

theorem LinkState.start_urgent {f : Frame} {rest : List Frame} (urgent : l.urgent.frames = f :: rest) :
    l.start table = { l with lineFree := false, tx := some ⟨.urgent, f⟩ } := by
  simp only [LinkState.start, urgent, List.head?_cons]

theorem LinkState.start_phase {j : Fin 16} {f : Frame} {rest : List Frame} (noUrgent : l.urgent.frames = [])
    (before : ∀ k : Fin 16, k < j → (l.queue table[l.pointer + k].name).frames = [])
    (head : (l.queue table[l.pointer + j].name).frames = f :: rest) :
    l.start table = { l with
      lineFree := false, pointer := l.pointer + j, tx := some ⟨table[l.pointer + j].name, f⟩ } := by
  have chosen : choosePhase table l = some (l.pointer + j) :=
    choosePhase_first before (head.trans_ne (List.cons_ne_nil f rest))
  simp only [LinkState.start, noUrgent, List.head?_nil, chosen, head, List.head?_cons]

end

/-! ### When it is offered (R144, R158) -/

/-- The station may start a frame: it has begun and is not OFFLINE, the line is FREE, and it sends nothing. -/
def State.mayStart (s : State) : Prop :=
  s.link.begun = true ∧ s.offline = false ∧ s.link.lineFree = true ∧ s.link.tx = none

theorem State.mayStart_iff (s : State) : s.mayStart ↔
    (s.link.begun && !s.offline && s.link.lineFree && s.link.tx.isNone) = true := by
  simp [State.mayStart, and_assoc]

section
variable {s : State}

theorem State.tryStart_mayStart (may : s.mayStart) :
    s.tryStart = { s with link := s.link.start s.cfg.phaseTable } := if_pos (s.mayStart_iff.1 may)

theorem State.tryStart_not (may : ¬ s.mayStart) : s.tryStart = s := if_neg (mt s.mayStart_iff.2 may)

theorem State.tryStart_allEmpty (empty : s.link.allEmpty = true) : s.tryStart = s := by
  by_cases may : s.mayStart
  · rw [State.tryStart_mayStart may, LinkState.start_allEmpty empty]
  · exact State.tryStart_not may

variable (may : s.mayStart)
include may

theorem State.tryStart_urgent {f : Frame} {rest : List Frame} (urgent : s.link.urgent.frames = f :: rest) :
    s.tryStart = { s with link := { s.link with lineFree := false, tx := some ⟨.urgent, f⟩ } } := by
  rw [State.tryStart_mayStart may, LinkState.start_urgent urgent]

theorem State.tryStart_phase {j : Fin 16} {f : Frame} {rest : List Frame} (noUrgent : s.link.urgent.frames = [])
    (before : ∀ k : Fin 16, k < j → (s.link.queue s.cfg.phaseTable[s.link.pointer + k].name).frames = [])
    (head : (s.link.queue s.cfg.phaseTable[s.link.pointer + j].name).frames = f :: rest) :
    s.tryStart = { s with link := { s.link with
      lineFree := false, pointer := s.link.pointer + j
      tx := some ⟨s.cfg.phaseTable[s.link.pointer + j].name, f⟩ } } := by
  rw [State.tryStart_mayStart may, LinkState.start_phase noUrgent before head]

end

/-! ### The owner and the blocks that wait for room are told (R94, R106, R147, R148, R154) -/

/-- What the departure of a frame from a queue is told by. -/
def QueueName.departureEvents : QueueName → List Posted
  | .urgent => []
  | .visit => [.event .visitQueueDeparture]
  | .routine => [.event .routineQueueDeparture]
  | .bulk => [.event .bulkQueueDeparture]

/-- What the delivery of a frame gives the visit table unit of the station that sent it. -/
def Frame.deliveryEvents (f : Frame) (own : Station) : List Posted :=
  match f.kind with
  | .visitOpen => [.event (.visitOpen own f.payload)]
  | .visitClose => [.event (.visitClose own f.payload)]
  | .visitAnnounce => [.event (.visitAnnounce f.payload)]
  | _ => []

/-- What the drop of a frame tells its owner. -/
def Frame.dropEvents (f : Frame) : List Posted :=
  match f.kind, decodeVisitNumber (field f.payload 0 3) with
  | .visitOpen, some n => [.event (.claimOutcome n .notDelivered)]
  | .visitClose, some n => [.event (.closeOutcome n .notDelivered)]
  | _, _ => []

theorem State.tellDeparture_gives (s : State) (q : QueueName) : s.tellDeparture q = s.gives q.departureEvents := by
  cases q with
  | urgent => exact s.gives_nil.symm
  | visit | routine | bulk => rfl

theorem State.handOwnFrame_gives (s : State) (f : Frame) : s.handOwnFrame f = s.gives (f.deliveryEvents s.own) := by
  obtain ⟨kind, payload⟩ := f
  cases kind with
  | visitOpen | visitClose | visitAnnounce => rfl
  | _ => exact s.gives_nil.symm

theorem State.tellDrop_gives (s : State) (f : Frame) : s.tellDrop f = s.gives f.dropEvents := by
  obtain ⟨kind, payload⟩ := f
  cases kind with
  | visitOpen | visitClose =>
    simp only [State.tellDrop, Frame.dropEvents]
    cases decodeVisitNumber (field payload 0 3) with
    | none => exact s.gives_nil.symm
    | some n => rfl
  | _ => exact s.gives_nil.symm

/-! ### The frame leaves its queue, or stays for another attempt (R146 to R148) -/

section
variable (s : State) (t : InTransmission)

theorem State.deliver_gives : s.deliver t = (State.gives { s with link := s.link.depart t.queue }
    (t.frame.deliveryEvents s.own)).gives t.queue.departureEvents := by
  rw [State.deliver, State.handOwnFrame_gives, State.tellDeparture_gives]
  rfl

variable {s t}

theorem State.failAttempt_again (early : (s.link.queue t.queue).attempts < 3) : s.failAttempt t = { s with link :=
    { s.link.setQueue t.queue { s.link.queue t.queue with attempts := (s.link.queue t.queue).attempts + 1 } with
      tx := none } } := if_pos (Nat.succ_lt_succ early)

theorem State.failAttempt_drops (last : (s.link.queue t.queue).attempts = 3) : s.failAttempt t =
    (State.gives { s with link := { s.link.depart t.queue with drops := satSucc s.link.drops } }
      t.frame.dropEvents).gives t.queue.departureEvents := by
  rw [State.failAttempt, last, ← State.tellDrop_gives, ← State.tellDeparture_gives]
  rfl

end

/-! ### The commands of the sender (R144 to R148) -/

section
variable {s : State} (live : s.live = true)
include live

section
variable (idle : s.link.tx = none)
include idle

theorem exec_lineFree_idle :
    exec .lineFree s = .next (State.tryStart { s with link := { s.link with lineFree := true } }) := by
  show execLineFree s = _
  rw [execLineFree, State.whenLive_live _ live, if_pos (by simp [idle])]

theorem exec_frameStartHeard_idle : exec .frameStartHeard s =
    .next { s with link := { s.link with lineFree := false, hearing := s.offline || s.link.begun } } := by
  have hears : s.hears = (s.offline || s.link.begun) := by simp [State.hears, live]
  show execFrameStartHeard s = _
  rw [execFrameStartHeard, State.whenLive_live _ live, if_pos (by simp [idle]), hears]

theorem exec_arbitrationLost_idle : exec .arbitrationLost s = .next s := by
  show execArbitrationLost s = _
  rw [execArbitrationLost, State.whenLive_live _ live, if_neg (by simp [idle])]

theorem exec_delivery_idle : exec .delivery s = .next s := by
  show execDelivery s = _
  rw [execDelivery, State.whenLive_live _ live, idle]

theorem exec_readbackMismatch_idle : exec .readbackMismatch s = .next s := by
  show execReadbackMismatch s = _
  rw [execReadbackMismatch, State.whenLive_live _ live, idle]

end

section
variable {t : InTransmission} (sends : s.link.tx = some t)
include sends

theorem exec_lineFree_sending : exec .lineFree s = .next s := by
  show execLineFree s = _
  rw [execLineFree, State.whenLive_live _ live, if_neg (by simp [sends])]

theorem exec_frameStartHeard_sending : exec .frameStartHeard s = .next s := by
  show execFrameStartHeard s = _
  rw [execFrameStartHeard, State.whenLive_live _ live, if_neg (by simp [sends])]

theorem exec_arbitrationLost_sending :
    exec .arbitrationLost s = .next { s with link := { s.link with tx := none, hearing := true } } := by
  show execArbitrationLost s = _
  rw [execArbitrationLost, State.whenLive_live _ live, if_pos (by simp [sends])]

theorem exec_delivery_sending : exec .delivery s = .next (s.deliver t) := by
  show execDelivery s = _
  rw [execDelivery, State.whenLive_live _ live, sends]

theorem exec_readbackMismatch_sending : exec .readbackMismatch s = .next (s.failAttempt t) := by
  show execReadbackMismatch s = _
  rw [execReadbackMismatch, State.whenLive_live _ live, sends]

end

end

/-- Settles O51: LINE_FREE leads to the start of a frame as a frame placed on the free line does, so both follow from what
starting a frame chooses; the frame sent is told of as it leaves its queue. -/
theorem lineOffersAndDeparts : Obligations.LineOffersAndDeparts := by
  unfold Obligations.LineOffersAndDeparts
  refine ⟨fun s live => ⟨fun sending => ?_, fun idle => ?_⟩, fun s q f live sends => ?_, fun s live idle =>
    ⟨exec_delivery_idle live idle, exec_readbackMismatch_idle live idle⟩, fun s => ?_⟩
  · obtain ⟨t, sends⟩ := Option.isSome_iff_exists.1 sending
    exact ⟨exec_lineFree_sending live sends, exec_frameStartHeard_sending live sends,
      exec_arbitrationLost_sending live sends⟩
  · let freed : State := { s with link := { s.link with lineFree := true } }
    have leads {u : State} (started : freed.tryStart = u) : exec .lineFree s = .next u :=
      (exec_lineFree_idle live idle).trans (congrArg _ started)
    refine ⟨exec_arbitrationLost_idle live idle, exec_frameStartHeard_idle live idle, fun stopped => ?_,
      fun begun on => ?_⟩
    · refine leads (State.tryStart_not ?_)
      rintro ⟨begun, on, -⟩
      exact stopped.elim (fun h => absurd (begun.symm.trans h) (by decide)) fun h => absurd (on.symm.trans h) (by decide)
    · have may : freed.mayStart := ⟨begun, on, rfl, idle⟩
      exact ⟨fun f rest urgent => leads (State.tryStart_urgent may urgent),
        fun j f rest noUrgent before head => leads (State.tryStart_phase may noUrgent before head),
        fun empty => leads (State.tryStart_allEmpty empty)⟩
  · intro departed departure own dropped
    refine ⟨?_, fun early => ?_, fun last => ?_⟩
    · exact (exec_delivery_sending live sends).trans (congrArg _ (s.deliver_gives ⟨q, f⟩))
    · exact (exec_readbackMismatch_sending live sends).trans (congrArg _ (State.failAttempt_again early))
    · exact (exec_readbackMismatch_sending live sends).trans (congrArg _ (State.failAttempt_drops last))
  · intro ready
    exact ⟨fun h => h.elim State.tryStart_not State.tryStart_allEmpty,
      fun f rest may urgent => State.tryStart_urgent may urgent,
      fun j f rest may noUrgent before head => State.tryStart_phase may noUrgent before head⟩

end Sys2Proof.Machine
end

section
/-! PROOFS. The peer monitor's entries, its join window and its heartbeat (R159 to R164, R168, R169), and the depot clock
(R170). -/

namespace Sys2Proof.Machine

/-! ### The checks of the frames (R162, R164, R169) -/

theorem helloOk_iff (source : Station) (payload : List Byte) : helloOk source payload = true ↔
    source ≠ 0 ∧ payload.length = 5 ∧ (byteAt payload 4).toNat ≤ 2 := by
  simp [helloOk, roleByteOk, and_assoc]

theorem presenceOk_iff (source : Station) (payload : List Byte) : presenceOk source payload = true ↔
    source ≠ 0 ∧ payload.length = 21 ∧ (byteAt payload 4).toNat ≤ 2 ∧
      (byteAt payload 5 = 1#8 ∨ byteAt payload 5 = 2#8) ∧ (byteAt payload 6).toNat ≤ 11 ∧
      (byteAt payload 7).toNat ≤ 96 := by
  simp [presenceOk, roleByteOk, and_assoc]

theorem bootCountChanged_iff (recorded : Option Nat) (carried : Nat) : bootCountChanged recorded carried = true ↔
    recorded.isSome = true ∧ recorded ≠ some carried := by
  cases recorded <;> simp [bootCountChanged]

theorem clockAfterSet_sets {payload : List Byte} (clock : Option DepotTime)
    (inDay : fromBe (field payload 2 3) < 86400) : clockAfterSet payload clock =
      some ⟨fromBe (field payload 0 2), fromBe (field payload 2 3)⟩ := if_pos inDay

theorem clockAfterSet_ignores {payload : List Byte} (clock : Option DepotTime)
    (past : 86400 ≤ fromBe (field payload 2 3)) : clockAfterSet payload clock = clock := if_neg (Nat.not_lt.2 past)

/-! ### The frames taken (R162, R164, R169) -/

/-- A report is recorded; `b` tells whether its frame is one that starts the cursor (R164). -/
theorem State.recordPeer_records (s : State) (source : Station) (bootCount : Nat) (active : Bool) {starts : Bool}
    {b : Prop} [Decidable b] (when : starts = true ↔ b) : s.recordPeer source bootCount active starts = { s with
      peers := { s.peers with table := s.peers.table.set source { s.peers.table[source] with
        bootCount := some bootCount, reportedActive := some active } }
      posted := s.posted ++ if s.peers.station = .active ∧ b then [.event (.cursorStart source)] else [] } := by
  have tells : (s.active && starts) = true ↔ s.peers.station = .active ∧ b := by simp [State.active, when]
  rw [State.recordPeer, State.postIf_gives, if_congr tells rfl rfl]
  rfl

section
variable {s : State} {source : Station} {payload : List Byte} (takes : s.takesYard = true)
include takes

theorem State.took_whenYard (i : Instr) (f : State → State) : (s.took i).whenYard f = f (s.took i) :=
  State.whenYard_takes f takes

theorem exec_peerHeard : exec (.peerHeard source) s = .next { s.took (.peerHeard source) with
    peers := s.peers.setPeer source { s.peers.table[source] with state := .live, sinceHeard := 0 } } :=
  congrArg Host.Outcome.next (State.took_whenYard takes _ _)

theorem exec_hello (passes : helloOk source payload = true) : exec (.hello source payload) s =
    .next ((s.took (.hello source payload)).recordPeer source (carriedBootCount payload) false true) := by
  show execHello source payload s = _
  rw [execHello, State.took_whenYard takes, if_pos passes]

theorem exec_hello_malformed (fails : ¬ helloOk source payload = true) :
    exec (.hello source payload) s = .next (s.took (.hello source payload)).countMalformed := by
  show execHello source payload s = _
  rw [execHello, State.took_whenYard takes, if_neg fails]

theorem exec_presence (passes : presenceOk source payload = true) : exec (.presence source payload) s =
    .next ((s.took (.presence source payload)).recordPeer source (carriedBootCount payload) (byteAt payload 5 == 2#8)
      (bootCountChanged s.peers.table[source].bootCount (carriedBootCount payload))) := by
  show execPresence source payload s = _
  rw [execPresence, State.took_whenYard takes, if_pos passes, State.took_peers]

theorem exec_presence_malformed (fails : ¬ presenceOk source payload = true) :
    exec (.presence source payload) s = .next (s.took (.presence source payload)).countMalformed := by
  show execPresence source payload s = _
  rw [execPresence, State.took_whenYard takes, if_neg fails]

theorem exec_timeSet (length : payload.length = 5) : exec (.timeSet payload) s = .next { s.took (.timeSet payload) with
    peers := { s.peers with clock := clockAfterSet payload s.peers.clock } } := by
  show execTimeSet payload s = _
  rw [execTimeSet, State.took_whenYard takes, if_pos length, State.took_peers]

theorem exec_timeSet_malformed (length : payload.length ≠ 5) :
    exec (.timeSet payload) s = .next (s.took (.timeSet payload)).countMalformed := by
  show execTimeSet payload s = _
  rw [execTimeSet, State.took_whenYard takes, if_neg length]

end

/-! ### The join window and the heartbeat (R159, R160, R168) -/

section
variable {s : State}

/-- A PRESENCE is placed at the tail of the ROUTINE queue (R152, R168). -/
theorem State.place_presence (on : s.offline = false) (begun : s.link.begun = true)
    (room : s.link.routine.frames.length < 8) :
    (s.place (presenceFrame s)).1 = { s with link := s.linkAfter (presenceFrame s) } := by
  have hasRoom : s.link.hasRoom (presenceFrame s).kind.queue = true := decide_eq_true room
  rw [State.place_placed on (.inr begun) hasRoom]
  exact State.tryStart_beside (s := { s with link := s.link.push (presenceFrame s) }) rfl rfl rfl

/-- A PRESENCE is not sent where the ROUTINE queue is FULL (R153, R168). -/
theorem State.place_presence_full (on : s.offline = false) (full : 8 ≤ s.link.routine.frames.length) :
    (s.place (presenceFrame s)).1 = s := by
  have noRoom : s.link.hasRoom (presenceFrame s).kind.queue = false := decide_eq_false (Nat.not_lt.2 full)
  rw [State.place_full on noRoom]

variable (live : s.live = true)
include live

theorem exec_joinWindowExpiry (joining : s.peers.joinWindow.isSome = true) : exec .joinWindowExpiry s = .next { s with
    peers := { s.peers with
      table := s.peers.table.set s.own { s.peers.table[s.own] with reportedActive := some true }
      station := .active, joinWindow := none }
    posted := s.posted ++ [.event .stationActive, .event .cursorEnable] } := by
  show execJoinWindowExpiry s = _
  rw [execJoinWindowExpiry, State.whenLive_live _ live, if_pos joining]
  simp only [State.post, PeerMonitor.setPeer, List.append_assoc, List.cons_append, List.nil_append]

theorem exec_joinWindowExpiry_stopped (stopped : s.peers.joinWindow = none) : exec .joinWindowExpiry s = .next s := by
  show execJoinWindowExpiry s = _
  rw [execJoinWindowExpiry, State.whenLive_live _ live, if_neg (by simp [stopped])]

theorem exec_heartbeatExpiry_stopped (stopped : s.peers.heartbeat = none) : exec .heartbeatExpiry s = .next s := by
  show execHeartbeatExpiry s = _
  rw [execHeartbeatExpiry, State.whenLive_live _ live, if_neg (by simp [stopped])]

/-- The heartbeat changes the link controller by the PRESENCE, and starts again (R168). -/
theorem exec_heartbeatExpiry (beats : s.peers.heartbeat.isSome = true) {l : LinkState}
    (placed : (s.place (presenceFrame s)).1 = { s with link := l }) : exec .heartbeatExpiry s =
      .next { s with link := l, peers := { s.peers with heartbeat := some s.cfg.heartbeat } } := by
  show execHeartbeatExpiry s = _
  rw [execHeartbeatExpiry, State.whenLive_live _ live, if_pos beats, placed]

end

/-! ### The tick (R163) -/

theorem Peer.aged_unknown {p : Peer} (limit : Nat) (unknown : p.state = .unknown) : p.aged limit = p := by
  simp only [Peer.aged, unknown]

theorem Peer.aged_known {p : Peer} (limit : Nat) (known : p.state ≠ .unknown) : p.aged limit = { p with
    sinceHeard := satSucc p.sinceHeard
    state := if p.state = .live ∧ satSucc p.sinceHeard < limit then .live else .silent } := by
  obtain ⟨state, bootCount, reportedActive, sinceHeard⟩ := p
  cases state with
  | unknown => exact absurd rfl known
  | live =>
    have swapped : (if limit ≤ satSucc sinceHeard then PeerState.silent else .live) =
        if satSucc sinceHeard < limit then .live else .silent := by
      rw [← ite_not, if_congr Nat.not_le rfl rfl]
    simp only [Peer.aged, swapped, true_and]
  | silent => simp [Peer.aged]

/-- An entry but the own one ages where it has been heard (R163). -/
theorem agedTable_getElem (own n : Station) (limit : Nat) (table : Vector Peer 16) : (agedTable own limit table)[n] =
    if n = own ∨ table[n].state = .unknown then table[n]
    else { table[n] with
      sinceHeard := satSucc table[n].sinceHeard
      state := if table[n].state = .live ∧ satSucc table[n].sinceHeard < limit then .live else .silent } := by
  have entry : (agedTable own limit table)[n] = if n = own then table[n] else table[n].aged limit := by
    simp [agedTable]
  rw [entry]
  by_cases isOwn : n = own
  · rw [if_pos isOwn, if_pos (.inl isOwn)]
  · by_cases unknown : table[n].state = .unknown
    · rw [if_neg isOwn, if_pos (.inr unknown), Peer.aged_unknown limit unknown]
    · rw [if_neg isOwn, if_neg (not_or.2 ⟨isOwn, unknown⟩), Peer.aged_known limit unknown]

section
variable {s : State} (live : s.live = true)
include live

theorem exec_peerTick (ticks : s.peers.ticking = true) : exec .peerTick s = .next { s with
    peers := { s.peers with table := agedTable s.own (s.cfg.silence * s.cfg.heartbeat) s.peers.table } } := by
  show execPeerTick s = _
  rw [execPeerTick, State.whenLive_live _ live, if_pos ticks]

theorem exec_peerTick_stopped (stopped : s.peers.ticking = false) : exec .peerTick s = .next s := by
  show execPeerTick s = _
  rw [execPeerTick, State.whenLive_live _ live, if_neg (by simp [stopped])]

end

/-- Settles O53: each frame by the check it passes or not, each timer by whether it runs, and the tick entry by entry. -/
theorem peerMonitorTakesItsEvents : Obligations.PeerMonitorTakesItsEvents := by
  refine ⟨fun s source payload takes => ?_, fun s live => ⟨exec_joinWindowExpiry live,
    exec_joinWindowExpiry_stopped live, exec_heartbeatExpiry_stopped live, fun beats on begun => ⟨fun room => ?_,
      fun full => ?_⟩, ?_, exec_peerTick_stopped live, fun ticks => ?_⟩⟩
  · intro entry put malformed carried starts hello presence timeSet helloPasses presencePasses
    refine ⟨exec_peerHeard takes, fun passes => ?_,
      fun fails => exec_hello_malformed takes (mt (helloOk_iff _ _).1 fails), fun passes => ?_,
      fun fails => exec_presence_malformed takes (mt (presenceOk_iff _ _).1 fails), fun length inDay => ?_,
      fun length past => ?_, exec_timeSet_malformed takes⟩
    · rw [exec_hello takes ((helloOk_iff _ _).2 passes), State.recordPeer_records _ _ _ _ (iff_of_true rfl trivial)]
      rfl
    · rw [exec_presence takes ((presenceOk_iff _ _).2 passes),
        State.recordPeer_records _ _ _ _ (bootCountChanged_iff _ _)]
      rfl
    · rw [exec_timeSet takes length, clockAfterSet_sets _ inDay]
    · rw [exec_timeSet takes length, clockAfterSet_ignores _ past]
      rfl
  · exact exec_heartbeatExpiry live beats (State.place_presence on begun room)
  · exact exec_heartbeatExpiry live beats (State.place_presence_full on full)
  · intro flag
    rfl
  · exact ⟨_, exec_peerTick live ticks, rfl, fun n => agedTable_getElem s.own n _ s.peers.table⟩

/-! ### The depot clock (R170) -/

theorem clockSecondOn_within {day second : Nat} (within : second < 86399) :
    clockSecondOn ⟨day, second⟩ = ⟨day, second + 1⟩ := if_pos (Nat.succ_lt_succ within)

theorem clockSecondOn_midnight (day : Nat) : clockSecondOn ⟨day, 86399⟩ = ⟨(day + 1) % 65536, 0⟩ :=
  if_neg (Nat.lt_irrefl 86400)

theorem exec_clockTick {s : State} (live : s.live = true) : exec .clockTick s =
    .next { s with peers := { s.peers with clock := s.peers.clock.map clockSecondOn } } :=
  congrArg Host.Outcome.next (State.whenLive_live _ live)

/-- No day is before day 0, so nothing is expired on it (R116, R169). -/
theorem TareRecord.expired_dayZero (r : TareRecord) (second : Nat) : r.expired (some ⟨0, second⟩) = false := by
  refine Bool.eq_false_iff.2 fun expired => ?_
  obtain ⟨_, day, ⟨⟩, -, past⟩ := (r.expired_iff _).1 expired
  exact Nat.not_lt_zero day past

/-- Settles O54: within the day the second counts on, and at midnight the day does, from 65,535 to 0. -/
theorem clockTickAdvancesTheSetClock : Obligations.ClockTickAdvancesTheSetClock := by
  refine ⟨fun s live => ?_, TareRecord.expired_dayZero⟩
  intro at'
  have advances {t : DepotTime} (set : s.peers.clock = some t) : exec .clockTick s =
      at' (clockSecondOn t).day (clockSecondOn t).second := by
    rw [exec_clockTick live, set]
    rfl
  refine ⟨fun unset => ?_, fun day second set _ =>
    ⟨fun within => ?_, fun midnight early => ?_, fun midnight last => ?_⟩⟩
  · rw [exec_clockTick live, unset, Option.map_none, ← unset]
  · rw [advances set, clockSecondOn_within within]
  · subst midnight
    rw [advances set, clockSecondOn_midnight, Nat.mod_eq_of_lt (Nat.succ_lt_succ early)]
  · subst midnight last
    rw [advances set, clockSecondOn_midnight]

end Sys2Proof.Machine
end

section
/-! PROOFS. The writers of the retained values, of the straps and of the values in force (R181, R185, R187, R188). -/

namespace Sys2Proof.Machine

/-- `t` has the straps of `s`, and its values in force where those are settled (R185, R188). -/
structure State.keepsConfiguration (s t : State) : Prop where
  station : t.loader.station = s.loader.station
  role    : t.loader.role = s.loader.role
  cfg     : s.loader.phase = .inForce → t.cfg = s.cfg

theorem State.keepsConfiguration.refl (s : State) : s.keepsConfiguration s := ⟨rfl, rfl, fun _ => rfl⟩

theorem State.keeps.configuration {s t : State} (kept : s.keeps t) : s.keepsConfiguration t :=
  ⟨by rw [kept.loader], by rw [kept.loader], fun _ => kept.cfg⟩

theorem State.whenLive_keepsConfiguration (s : State) {f : State → State}
    (h : ∀ t : State, t.keepsConfiguration (f t)) : s.keepsConfiguration (s.whenLive f) := by
  unfold State.whenLive
  split
  · exact h s
  · exact .refl s

/-! ### The reading of the configuration memory (R188) -/

/-- The image decides the values in force only, and neither a strap nor a retained value (R188, R189). -/
theorem State.settleImage_loads (s : State) (image : List Byte) : (s.settleImage image).retained = s.retained ∧
    (s.settleImage image).loader.station = s.loader.station ∧ (s.settleImage image).loader.role = s.loader.role := by
  unfold State.settleImage
  split <;> exact ⟨rfl, rfl, rfl⟩

theorem execConfigByte_loads (byte : Byte) (s : State) :
    ∃ t, execConfigByte byte s = .next t ∧ t.retained = s.retained ∧ s.keepsConfiguration t := by
  refine ⟨_, rfl, ?_⟩
  split
  · rename_i reading
    have settled : s.loader.phase ≠ .inForce := by simp [reading]
    extract_lets image loader t
    split
    · obtain ⟨retained, station, role⟩ := t.settleImage_loads image
      exact ⟨retained, station, role, fun h => absurd h settled⟩
    · exact ⟨rfl, rfl, rfl, fun _ => rfl⟩
  · exact ⟨rfl, .refl s⟩

theorem execConfigByteTimeout_loads (s : State) :
    ∃ t, execConfigByteTimeout s = .next t ∧ t.retained = s.retained ∧ s.keepsConfiguration t := by
  refine ⟨_, rfl, ?_⟩
  split
  · rename_i reading
    exact ⟨rfl, rfl, rfl, fun h => absurd h (by simp [reading])⟩
  · exact ⟨rfl, .refl s⟩

/-! ### The completions of commits (R187) -/

theorem execBootCountCommitDone_keepsConfiguration (s : State) :
    ∃ t, execBootCountCommitDone s = .next t ∧ s.keepsConfiguration t := by
  refine ⟨_, rfl, ?_⟩
  split
  · exact ⟨rfl, rfl, fun _ => rfl⟩
  · exact .refl s

theorem execTicketCommitDone_keepsConfiguration (s : State) :
    ∃ t, execTicketCommitDone s = .next t ∧ s.keepsConfiguration t := by
  refine ⟨_, rfl, s.whenLive_keepsConfiguration fun s => ?_⟩
  split
  · extract_lets retained t
    split
    · exact ⟨rfl, rfl, fun _ => rfl⟩
    · rename_i r committing
      obtain ⟨station, role, cfg⟩ := (((t.ticketCommitted_keeps r committing).trans (State.tryPrint_keeps _)).trans
        (State.workIssue_keeps _)).configuration
      exact ⟨station, role, cfg⟩
  · exact .refl s

theorem State.applyWrite_keepsConfiguration (s : State) (w : CalWrite) : s.keepsConfiguration (s.applyWrite w) := by
  obtain ⟨station, role, cfg⟩ := ((State.oweNotice_keeps _ _).trans (State.endRequest_keeps _ w)).configuration
  exact ⟨station, role, cfg⟩

theorem execCalCommitDone_keepsConfiguration (s : State) :
    ∃ t, execCalCommitDone s = .next t ∧ s.keepsConfiguration t := by
  refine ⟨_, rfl, s.whenLive_keepsConfiguration fun s => ?_⟩
  split
  · exact s.applyWrite_keepsConfiguration _
  · exact .refl s

/-! ### Every command (R181, R185, R187, R188) -/

/-- But for a reset and a commit's completion, a command leaves every retained value, and asks for commits at most
(R181, R187). -/
theorem exec_retained {i : Instr} {s t : State} (answer : exec i s = .next t) (boot : i ≠ .bootCountCommitDone)
    (ticket : i ≠ .ticketCommitDone) (cal : i ≠ .calCommitDone) (noReset : ∀ n r c, i ≠ .reset n r c) :
    { t.retained with commits := s.retained.commits } = s.retained ∧ s.retained.commits <+: t.retained.commits := by
  cases writes : writesKept i
  case false =>
    obtain ⟨u, answer', kept⟩ := exec_keeps i s writes
    cases answer'.symm.trans answer
    exact ⟨kept.values, kept.commits⟩
  case true =>
    have loads : ∃ u, exec i s = .next u ∧ u.retained = s.retained ∧ s.keepsConfiguration u := by
      cases i
      case configByte => exact execConfigByte_loads _ s
      case configByteTimeout => exact execConfigByteTimeout_loads s
      case bootCountCommitDone => exact absurd rfl boot
      case ticketCommitDone => exact absurd rfl ticket
      case calCommitDone => exact absurd rfl cal
      case reset => exact absurd rfl (noReset _ _ _)
      all_goals cases writes
    obtain ⟨u, answer', unchanged, -⟩ := loads
    cases answer'.symm.trans answer
    rw [unchanged]
    exact ⟨rfl, List.prefix_rfl⟩

/-- But for a reset, a command leaves the straps, and the values in force once they are settled (R185, R188). -/
theorem exec_keepsConfiguration (i : Instr) (s : State) (noReset : ∀ n r c, i ≠ .reset n r c) :
    ∃ t, exec i s = .next t ∧ s.keepsConfiguration t := by
  cases writes : writesKept i
  case false =>
    obtain ⟨t, answer, kept⟩ := exec_keeps i s writes
    exact ⟨t, answer, kept.configuration⟩
  case true =>
    cases i
    case reset => exact absurd rfl (noReset _ _ _)
    case bootCountCommitDone => exact execBootCountCommitDone_keepsConfiguration s
    case configByte =>
      obtain ⟨t, answer, -, kept⟩ := execConfigByte_loads _ s
      exact ⟨t, answer, kept⟩
    case configByteTimeout =>
      obtain ⟨t, answer, -, kept⟩ := execConfigByteTimeout_loads s
      exact ⟨t, answer, kept⟩
    case ticketCommitDone => exact execTicketCommitDone_keepsConfiguration s
    case calCommitDone => exact execCalCommitDone_keepsConfiguration s
    all_goals cases writes

/-- Settles O5: all commands but six by `exec_keeps`; of those six the reset and the completions of commits are the
writers, and the reading of the configuration memory is over once the values are in force. -/
theorem retainedValuesAndConfigurationHaveTheirWriters :
    Obligations.RetainedValuesAndConfigurationHaveTheirWriters := by
  refine ⟨fun i s t => exec_retained, fun i s t answer noReset => ?_⟩
  obtain ⟨u, answer', kept⟩ := exec_keepsConfiguration i s noReset
  cases answer'.symm.trans answer
  exact ⟨kept.station, kept.role, kept.cfg⟩

end Sys2Proof.Machine
end

section
/-! PROOFS. The measurement of a CAL-ZERO or a CAL-SPAN: what ends it, what a GOOD scan adds, and the write that the
sixteenth asks for (R177 to R179). -/

namespace Sys2Proof.Machine

/-! ### The end of a measurement (R177 to R179) -/

theorem State.endMeasurement_eq (s : State) (code : ServiceCode) : s.endMeasurement code = { s with
    cal := { s.cal with inHand := none }
    posted := s.posted ++ if s.offline then [] else [.event .calHoldRelease]
    lines := { s.lines with service := some { code } } } := by
  have release : (if (!s.offline) = true then [Posted.event .calHoldRelease] else []) =
      if s.offline then [] else [.event .calHoldRelease] := by cases s.offline <;> rfl
  rw [State.endMeasurement, State.postIf_gives, release]
  rfl

/-! ### The new span factor (R179) -/

section
variable {mass : Nat} {sumA : Int}

theorem newSpan_light (light : roundHalfAway sumA 16 < 10000) : newSpan mass sumA = none := if_pos light

theorem newSpan_inRange (heavy : 10000 ≤ roundHalfAway sumA 16)
    (inRange : 1 ≤ roundHalfUp (mass * 1000 * 65536) (roundHalfAway sumA 16).toNat ∧
      roundHalfUp (mass * 1000 * 65536) (roundHalfAway sumA 16).toNat ≤ 16777215) :
    newSpan mass sumA = some (roundHalfUp (mass * 1000 * 65536) (roundHalfAway sumA 16).toNat) :=
  (if_neg (Int.not_lt.2 heavy)).trans (if_pos inRange)

theorem newSpan_outOfRange (heavy : 10000 ≤ roundHalfAway sumA 16)
    (outOfRange : ¬ (1 ≤ roundHalfUp (mass * 1000 * 65536) (roundHalfAway sumA 16).toNat ∧
      roundHalfUp (mass * 1000 * 65536) (roundHalfAway sumA 16).toNat ≤ 16777215)) :
    newSpan mass sumA = none :=
  (if_neg (Int.not_lt.2 heavy)).trans (if_neg outOfRange)

end

/-! ### The sixteenth scan (R178, R179) -/

section
variable {s : State}

/-- The measurement's commit is asked for, with the measurement still in hand (R175, log 15). -/
def State.asksWrite (s : State) (h : CalInHand) (w : CalWrite) : State :=
  { s with
    cal := { s.cal with inHand := some { h with stage := .committing } }
    retained := { s.retained with commits := s.retained.commits ++ [.cal w] } }

section
variable {h : CalInHand}

theorem State.completeMeasurement_zero (zero : h.request = .zero) : s.completeMeasurement h =
    s.asksWrite h (.zero (newZeros s.cfg.channelMap h.sums) (scanList s.cfg.channelMap).length) := by
  cases h
  cases zero
  rfl

theorem State.completeMeasurement_span {mass factor : Nat} (span : h.request = .span mass)
    (given : newSpan mass h.sumA = some factor) : s.completeMeasurement h = s.asksWrite h (.span factor) := by
  cases h
  cases span
  simp only [State.completeMeasurement, given]
  rfl

theorem State.completeMeasurement_range {mass : Nat} (span : h.request = .span mass)
    (none : newSpan mass h.sumA = none) : s.completeMeasurement h = s.endMeasurement .range := by
  simp only [State.completeMeasurement, span, none]
  rfl

end

/-! ### The events of a measurement (R177) -/

section
variable (live : s.live = true)
include live

section
variable {h : CalInHand} (inHand : s.cal.inHand = some h) (measures : h.stage = .measuring)
include inHand measures

theorem exec_calScan_measures (sample : CalSample) :
    exec (.calScan sample) s = .next ((s.took (.calScan sample)).measureTakes h sample) := by
  have measurement : (s.took (.calScan sample)).cal.measurement = some h := by
    simp [CalState.measurement, inHand, measures]
  show execCalScan sample s = _
  rw [execCalScan, State.whenLive_live _ (by simpa using live), measurement]

theorem exec_calInterrupt_measures (cause : CalBreak) : exec (.calInterrupt cause) s = .next (
    if breaks cause h.request then (s.took (.calInterrupt cause)).endMeasurement .unstable
    else s.took (.calInterrupt cause)) := by
  have measurement : (s.took (.calInterrupt cause)).cal.measurement = some h := by
    simp [CalState.measurement, inHand, measures]
  show execCalInterrupt cause s = _
  rw [execCalInterrupt, State.whenLive_live _ (by simpa using live), measurement]

theorem exec_calInterrupt_ends {cause : CalBreak} (broken : breaks cause h.request = true) :
    exec (.calInterrupt cause) s = .next ((s.took (.calInterrupt cause)).endMeasurement .unstable) :=
  (exec_calInterrupt_measures live inHand measures cause).trans (congrArg _ (if_pos broken))

theorem exec_calInterrupt_spares {mass : Nat} (span : h.request = .span mass) :
    exec (.calInterrupt .deckLoop) s = .next (s.took (.calInterrupt .deckLoop)) :=
  (exec_calInterrupt_measures live inHand measures .deckLoop).trans (congrArg _ (if_neg (by simp [span, breaks])))

theorem exec_calScan_counts {counts : List (Channel × Int)} {sum : Int} (early : h.scans ≠ 15) :
    exec (.calScan (.good counts sum)) s = .next { s.took (.calScan (.good counts sum)) with
      cal := { s.cal with inHand := some (h.add counts sum) } } :=
  (exec_calScan_measures live inHand measures _).trans (congrArg _ (if_neg fun last => early (Nat.succ.inj last)))

theorem exec_calScan_completes {counts : List (Channel × Int)} {sum : Int} (last : h.scans = 15) :
    exec (.calScan (.good counts sum)) s =
      .next ((s.took (.calScan (.good counts sum))).completeMeasurement (h.add counts sum)) :=
  (exec_calScan_measures live inHand measures _).trans (congrArg _ (if_pos (congrArg (· + 1) last)))

end

section
variable (none : s.cal.measurement = none)
include none

theorem exec_calScan_dropped (sample : CalSample) :
    exec (.calScan sample) s = .next (s.took (.calScan sample)) := by
  show execCalScan sample s = _
  rw [execCalScan, State.whenLive_live _ (by simpa using live), State.took_cal, none]

theorem exec_calInterrupt_dropped (cause : CalBreak) :
    exec (.calInterrupt cause) s = .next (s.took (.calInterrupt cause)) := by
  show execCalInterrupt cause s = _
  rw [execCalInterrupt, State.whenLive_live _ (by simpa using live), State.took_cal, none]

end

end

end

theorem CalState.measurement_none {c : CalState}
    (h : c.inHand = none ∨ ∃ k, c.inHand = some k ∧ k.stage ≠ .measuring) : c.measurement = none := by
  rcases h with nothing | ⟨k, inHand, other⟩
  · rw [CalState.measurement, nothing, Option.filter_none]
  · simp [CalState.measurement, inHand, other]

/-- Settles O56: an event of a measurement that runs ends it, is spared by it or is counted by it, and the sixteenth scan
completes it by its request and, for a span, by the two ranges of R179. -/
theorem measurementCountsSixteenScans : Obligations.MeasurementCountsSixteenScans := by
  intro s live ended
  have ends (i : Instr) (c : ServiceCode) : .next ((s.took i).endMeasurement c) = ended i c := by
    rw [State.endMeasurement_eq]
    rfl
  refine ⟨fun h inHand measures => ⟨?_, ?_, fun zero => ?_, fun mass span => ?_, fun counts sum => ?_⟩,
    fun idle sample cause => ⟨?_, ?_⟩⟩
  · exact (exec_calScan_measures live inHand measures .cellFault).trans (ends _ _)
  · exact (exec_calInterrupt_ends live inHand measures rfl).trans (ends _ _)
  · exact (exec_calInterrupt_ends live inHand measures (by rw [zero]; rfl)).trans (ends _ _)
  · exact exec_calInterrupt_spares live inHand measures span
  · intro i added asks cells average
    have completes (last : h.scans = 15) : exec i s = .next ((s.took i).completeMeasurement added) :=
      exec_calScan_completes live inHand measures last
    refine ⟨exec_calScan_counts live inHand measures, fun last zero => ?_, fun mass last span => ?_⟩
    · exact (completes last).trans (congrArg _ (State.completeMeasurement_zero (h := added) zero))
    · intro factor
      have spans : added.request = .span mass := span
      refine ⟨fun light => ?_, fun heavy inRange => ?_, fun heavy outOfRange => ?_⟩
      · rw [completes last, State.completeMeasurement_range spans (newSpan_light light), ends]
      · exact (completes last).trans (congrArg _ (State.completeMeasurement_span spans (newSpan_inRange heavy inRange)))
      · rw [completes last, State.completeMeasurement_range spans (newSpan_outOfRange heavy outOfRange), ends]
  · exact exec_calScan_dropped live (CalState.measurement_none idle) sample
  · exact exec_calInterrupt_dropped live (CalState.measurement_none idle) cause

end Sys2Proof.Machine
end

section
/-! PROOFS. The completion of a calibration write, and the CAL-NOTICE it may owe (R173, R178 to R183). -/

namespace Sys2Proof.Machine

/-! ### The notice (R183) -/

theorem noticeFrame_eq (n : CalNotice) : noticeFrame n = ⟨.calNotice,
    [match n.event with | .lock => 1#8 | .erase => 2#8 | .startErase => 3#8,
      match n.lockEngaged, n.unverified with
        | false, false => 0#8 | false, true => 64#8 | true, false => 128#8 | true, true => 192#8] ++
      beBytes 2 n.audit⟩ := by
  obtain ⟨event, lockEngaged, unverified, audit⟩ := n
  have eventByte : byteOf event.code = match event with | .lock => 1#8 | .erase => 2#8 | .startErase => 3#8 := by
    cases event <;> rfl
  have flagByte : byteOf (bit lockEngaged 7 + bit unverified 6) = match lockEngaged, unverified with
      | false, false => 0#8 | false, true => 64#8 | true, false => 128#8 | true, true => 192#8 := by
    cases lockEngaged <;> cases unverified <;> rfl
  rw [noticeFrame, eventByte, flagByte]

section
variable {s : State} (on : s.offline = false) (n : CalNotice)
include on

/-- A notice is placed at the tail of the ROUTINE queue, and none waits any more (R152, R183). -/
theorem State.handNotice_placed (begun : s.link.begun = true) (room : s.link.routine.frames.length < 8) :
    s.handNotice n = { s with link := s.linkAfter (noticeFrame n), cal := { s.cal with notice := none } } := by
  have placed : s.place (noticeFrame n) = _ := State.place_placed on (.inr begun) (decide_eq_true room)
  have started := State.tryStart_beside (s := { s with link := s.link.push (noticeFrame n) }) rfl rfl rfl
  rw [State.handNotice, placed, started]
  rfl

/-- A notice waits before JOINING and where the ROUTINE queue is FULL (R152, R158, R183). -/
theorem State.handNotice_waits (refused : s.link.begun = false ∨ 8 ≤ s.link.routine.frames.length) :
    s.handNotice n = { s with cal := { s.cal with notice := some n } } := by
  have full : s.place (noticeFrame n) = (s, false) := by
    rcases refused with early | full
    · simp [State.place, on, early, noticeFrame, FrameKind.queue]
    · exact State.place_full on (decide_eq_false (Nat.not_lt.2 full))
  rw [State.handNotice, full]
  rfl

end

/-! ### The commands (R181, R183) -/

section
variable {s : State} (live : s.live = true)
include live

theorem exec_calCommitDone {w : CalWrite} {rest : List Commit} (runs : s.retained.commits = .cal w :: rest) :
    exec .calCommitDone s = .next (s.applyWrite w) := by
  show execCalCommitDone s = _
  rw [execCalCommitDone, State.whenLive_live _ live, runs]
  rfl

theorem exec_routineQueueDeparture : exec .routineQueueDeparture s =
    .next (s.took .routineQueueDeparture).handWaitingNotice := by
  show execRoutineQueueDeparture s = _
  rw [execRoutineQueueDeparture, State.whenLive_live _ (by simpa using live)]

end

/-! ### The values written (R174, R178 to R182) -/

/-- A completed write with its commit taken off those asked for (R187). -/
theorem Retained.write_finished (r : Retained) (w : CalWrite) {c : Commit} {rest : List Commit}
    (runs : r.commits = c :: rest) : (r.write w).finished = { r with commits := rest }.write w := by
  have drop : r.commits.drop 1 = rest := by rw [runs]; rfl
  cases w <;> simp only [Retained.write, Retained.erased, Retained.finished, drop]

/-- Settles O57: a write is applied in the order of R181, by its kind, and a measured one ends its measurement on top; the
notice goes by the room in the ROUTINE queue. -/
theorem calibrationWriteCompletes : Obligations.CalibrationWriteCompletes := by
  refine ⟨fun s w rest live runs => ?_, fun s n on => ⟨State.handNotice_placed on n, State.handNotice_waits on n⟩,
    fun s live => ⟨fun free => ?_, fun n waits => ?_⟩, noticeFrame_eq⟩
  · intro r written ok released noticed erased emptied unset i
    have completes : exec i s = .next (((written (r.write w) (s.weigh.afterWrite w)).oweNotice w.notice).endRequest w) := by
      rw [exec_calCommitDone live runs, State.applyWrite, Retained.write_finished _ _ runs]
    have releases (t : State) (off : t.offline = s.offline) : t.endMeasurement .ok = ok (released t) := by
      rw [State.endMeasurement_eq, off]
    refine ⟨?_, ?_, ?_, ?_, ?_, ?_, ?_, ?_⟩
    · rintro values cells rfl
      exact completes.trans (congrArg _ (releases _ rfl))
    · rintro factor rfl
      exact completes.trans (congrArg _ (releases _ rfl))
    · rintro c factor rfl
      exact completes
    · rintro d capacity rfl
      exact completes
    · rintro rfl
      exact completes
    · rintro rfl
      exact completes
    · rintro rfl
      exact completes
    · rintro rfl
      exact completes
  · rw [exec_routineQueueDeparture live, State.handWaitingNotice_none (s := s.took .routineQueueDeparture) free]
  · rw [exec_routineQueueDeparture live, State.handWaitingNotice, State.took_cal, waits]

end Sys2Proof.Machine
end

section
/-! PROOFS. The reads of the service line, and their content byte by byte (R176, 11.3). -/

namespace Sys2Proof.Machine

/-! ### The parts of the contents -/

/-- What each entry of a table gives, entry after entry. -/
theorem flatten_toList_map {α β : Type} {n : Nat} (v : Vector α n) (f : α → List β) :
    (v.toList.map f).flatten = (List.finRange n).flatMap fun i => f v[i] := by
  have entries : v.toList = (List.finRange n).map fun i => v[i] :=
    List.ext_getElem (by simp) fun i _ _ => by simp
  rw [entries, List.map_map]
  rfl

theorem scanByte_eq (r : Option ScanRecord) : scanByte r = BitVec.ofNat 8 (match r with
    | none => 0
    | some ⟨none, _⟩ => 64
    | some ⟨some (c, .noAnswer), _⟩ => 128 + 16 + (c.val + 1)
    | some ⟨some (c, .wrongChannel), _⟩ => 128 + 32 + (c.val + 1)
    | some ⟨some (c, .overrange), _⟩ => 128 + 48 + (c.val + 1)) := by
  match r with
  | none => rfl
  | some ⟨none, _⟩ => rfl
  | some ⟨some (_, .noAnswer), _⟩ => rfl
  | some ⟨some (_, .wrongChannel), _⟩ => rfl
  | some ⟨some (_, .overrange), _⟩ => rfl

theorem scanCount_eq (r : Option ScanRecord) (c : Channel) :
    scanCount r c = r.bind fun r => (r.counts.find? fun p => p.1 == c).map (·.2) := by
  cases r <;> rfl

theorem monitorBits_eq (m : Monitor) : m.code * 64 = match m with | .warming => 0 | .running => 64 | .failed => 128 := by
  cases m <;> rfl

theorem weightBits_eq (w : Weight) : w.code * 64 = match w with
    | .noWeight => 0 | .valid _ => 64 | .overload => 128 | .underzero => 192 := by
  cases w <;> rfl

theorem choiceByte_eq (c : Choice) : choiceByte c = BitVec.ofNat 8 (match c with
    | .shut => 0
    | .opened => 64
    | .chosen near direction => 128 + (if near == .b then 32 else 0) + if direction == .outbound then 16 else 0) := by
  cases c <;> rfl

theorem headBits_eq (e : Option TicketEntry) : (e.map fun e => e.printState.code).getD 0 * 8 =
    match e.map TicketEntry.printState with
    | none => 0 | some .queued => 8 | some .printing => 16 | some .printed => 24 := by
  match e with
  | none => rfl
  | some ⟨_, .queued, _⟩ => rfl
  | some ⟨_, .printing, _⟩ => rfl
  | some ⟨_, .printed, _⟩ => rfl

theorem PrinterState.code_eq (p : PrinterState) : p.code = match p with
    | .absent => 0 | .ready => 1 | .paperOut => 2 | .fault => 3 := by
  cases p <;> rfl

/-- The boot count, where one is recorded, and the time of an entry that has been heard (R161, 11.3). -/
theorem peerBytes_eq (p : Peer) : peerBytes p =
    [BitVec.ofNat 8 ((if p.bootCount.isSome then 128 else 0) +
        match p.state with | .unknown => 0 | .live => 1 | .silent => 2)] ++
      beBytes 4 (p.bootCount.getD 0) ++ beBytes 2 (match p.state with | .unknown => 0 | _ => p.sinceHeard) := by
  obtain ⟨state, bootCount, reportedActive, sinceHeard⟩ := p
  cases state <;> rfl

theorem timeBytes_eq (t : Option DepotTime) : timeBytes t = match t with
    | none => List.replicate 5 255#8
    | some t => beBytes 2 t.day ++ beBytes 3 t.second := by
  cases t <;> rfl

/-- The visit that the cursor stands at while it walks (R164, 11.3). -/
theorem cursorVisit_eq (walking : Bool) (v : Option VisitRecord) :
    optVisitNumberBytes (if walking then v.map (·.number) else none) = match walking, v with
      | true, some v => visitNumberBytes v.number
      | _, _ => List.replicate 3 0#8 := by
  cases walking <;> cases v <;> rfl

theorem requestCode_eq (h : Option CalInHand) : (h.map fun h => h.request.code).getD 0 =
    match h.map CalInHand.request with
    | none => 0 | some .zero => 3 | some (.span _) => 4 | some .corner => 5 | some .interval => 6
    | some .lock => 7 | some .erase => 8 := by
  match h with
  | none => rfl
  | some ⟨.zero, _, _, _, _⟩ => rfl
  | some ⟨.span _, _, _, _, _⟩ => rfl
  | some ⟨.corner, _, _, _, _⟩ => rfl
  | some ⟨.interval, _, _, _, _⟩ => rfl
  | some ⟨.lock, _, _, _, _⟩ => rfl
  | some ⟨.erase, _, _, _, _⟩ => rfl

end Sys2Proof.Machine
end

section
/-! PROOFS. The service requests (R175 to R182): BUSY, LOCKED, and each request's own tests; and the reads (R176). -/

namespace Sys2Proof.Machine

/-! ### The tests that come before a request's own (R175) -/

section
variable {s : State}

theorem State.unlessHeld_busy (lockable : Bool) (f : State → State) (busy : s.cal.inHand.isSome = true) :
    s.unlessHeld lockable f = s.answer .busy := if_pos busy

theorem State.unlessHeld_locked (f : State → State) (free : s.cal.inHand = none)
    (locked : s.retained.lockEngaged = true) : s.unlessHeld true f = s.answer .locked := by
  simp [State.unlessHeld, free, locked]

theorem State.unlessHeld_unlocked (f : State → State) (free : s.cal.inHand = none)
    (unlocked : s.retained.lockEngaged = false) : s.unlessHeld true f = f s := by
  simp [State.unlessHeld, free, unlocked]

theorem State.unlessHeld_unlockable (f : State → State) (free : s.cal.inHand = none) :
    s.unlessHeld false f = f s := by
  simp [State.unlessHeld, free]

end

/-! ### A request's own test (R177, R179, R180) -/

theorem State.deckDisturbed_iff (s : State) : s.deckDisturbed = true ↔
    (s.cfg.deckLoopFitted = true ∧ s.active? .deckLoop = true) ∨ s.active? (.beam .a) = true ∨
      s.active? (.beam .b) = true := by
  simp only [State.deckDisturbed, State.deckLoopClear, State.beamsClear, Bool.not_and, Bool.not_or, Bool.not_not,
    Bool.or_eq_true, Bool.and_eq_true]

theorem massOk_iff (mass : Nat) : massOk mass = true ↔ 1 ≤ mass ∧ mass ≤ 80000 := by
  simp [massOk]

theorem intervalOk_iff (d capacity : Nat) : intervalOk d capacity = true ↔
    (d = 5 ∨ d = 10 ∨ d = 20 ∨ d = 50) ∧ 10000 ≤ capacity ∧ capacity ≤ 80000 ∧ capacity % d = 0 ∧
      capacity ≤ 10000 * d := by
  have intervals : intervalOk d capacity = true ↔ (d = 5 ∨ d = 10 ∨ d = 20 ∨ d = 50) ∧ 10000 ≤ capacity ∧
      capacity ≤ 80000 ∧ capacity % d = 0 ∧ capacity / d ≤ 10000 := by
    simp [intervalOk, or_assoc, and_assoc]
  rw [intervals]
  refine and_congr_right fun listed => and_congr_right fun _ => and_congr_right fun _ => and_congr_right fun whole => ?_
  have positive : 0 < d := by omega
  conv_rhs => rw [← Nat.div_mul_cancel (Nat.dvd_of_mod_eq_zero whole)]
  exact (Nat.mul_le_mul_right_iff positive).symm

section
variable {map : BitVec 8} {channel : Byte} {factor : Nat}

theorem cornerChannel_some (ok : 1 ≤ channel.toNat ∧ channel.toNat ≤ 8 ∧ map.getLsbD (channel.toNat - 1) = true ∧
    49152 ≤ factor ∧ factor ≤ 81920) :
    cornerChannel map channel factor = some (Fin.ofNat 8 (channel.toNat - 1)) := by
  obtain ⟨low, high, cell, least, greatest⟩ := ok
  have index : (⟨channel.toNat - 1, by omega⟩ : Channel) = Fin.ofNat 8 (channel.toNat - 1) :=
    Fin.ext (Nat.mod_eq_of_lt (by omega)).symm
  rw [cornerChannel, channelOfByte, dif_pos ⟨low, high⟩, Option.filter_some, if_pos (by simp [cell, least, greatest]), index]

theorem cornerChannel_none (bad : ¬ (1 ≤ channel.toNat ∧ channel.toNat ≤ 8 ∧
    map.getLsbD (channel.toNat - 1) = true ∧ 49152 ≤ factor ∧ factor ≤ 81920)) :
    cornerChannel map channel factor = none := by
  rw [cornerChannel, channelOfByte]
  by_cases named : 1 ≤ channel.toNat ∧ channel.toNat ≤ 8
  · rw [dif_pos named, Option.filter_some, if_neg]
    intro ok
    simp only [Bool.and_eq_true, decide_eq_true_eq, and_assoc] at ok
    exact bad ⟨named.1, named.2, ok⟩
  · rw [dif_neg named, Option.filter_none]

end

/-! ### The reads, and the requests by the tests of R175 (R175, R176) -/

section
variable {s : State} (live : s.live = true)
include live

theorem exec_calRead : exec .calRead s = .next (s.answer .ok (calReadContent s.retained)) :=
  congrArg Host.Outcome.next (State.whenLive_live _ live)

theorem exec_status : exec .status s = .next (s.answer .ok (statusContent s)) :=
  congrArg Host.Outcome.next (State.whenLive_live _ live)

/-- The requests that the lock holds off are made subject to it. -/
theorem exec_lockable (mass capacity factor : BitVec 24) (interval channel : Byte) :
    ∀ i ∈ [Instr.calZero, .calSpan mass, .calCorner channel factor, .calInterval interval capacity, .calLock],
      ∃ f, exec i s = .next (s.unlessHeld true f) := by
  simp only [List.forall_mem_cons, List.not_mem_nil, false_implies, implies_true, and_true]
  exact ⟨⟨_, congrArg _ (State.whenLive_live _ live)⟩, ⟨_, congrArg _ (State.whenLive_live _ live)⟩,
    ⟨_, congrArg _ (State.whenLive_live _ live)⟩, ⟨_, congrArg _ (State.whenLive_live _ live)⟩,
    ⟨_, congrArg _ (State.whenLive_live _ live)⟩⟩

theorem exec_unlockable : ∀ i ∈ [Instr.calErase, .badServiceRequest], ∃ f, exec i s = .next (s.unlessHeld false f) := by
  simp only [List.forall_mem_cons, List.not_mem_nil, false_implies, implies_true, and_true]
  exact ⟨⟨_, congrArg _ (State.whenLive_live _ live)⟩, ⟨_, congrArg _ (State.whenLive_live _ live)⟩⟩

theorem exec_request_busy (mass capacity factor : BitVec 24) (interval channel : Byte)
    (busy : s.cal.inHand.isSome = true) :
    ∀ i ∈ [Instr.calZero, .calSpan mass, .calCorner channel factor, .calInterval interval capacity, .calLock] ++
      [.calErase, .badServiceRequest], exec i s = .next (s.answer .busy) := by
  refine List.forall_mem_append.2 ⟨fun i mem => ?_, fun i mem => ?_⟩
  · obtain ⟨f, tested⟩ := exec_lockable live mass capacity factor interval channel i mem
    rw [tested, State.unlessHeld_busy _ _ busy]
  · obtain ⟨f, tested⟩ := exec_unlockable live i mem
    rw [tested, State.unlessHeld_busy _ _ busy]

section
variable (free : s.cal.inHand = none)
include free

theorem exec_request_locked (mass capacity factor : BitVec 24) (interval channel : Byte)
    (locked : s.retained.lockEngaged = true) :
    ∀ i ∈ [Instr.calZero, .calSpan mass, .calCorner channel factor, .calInterval interval capacity, .calLock],
      exec i s = .next (s.answer .locked) := by
  intro i mem
  obtain ⟨f, tested⟩ := exec_lockable live mass capacity factor interval channel i mem
  rw [tested, State.unlessHeld_locked _ free locked]

theorem exec_calErase : exec .calErase s = .next (s.commitRequest .erase .erase) := by
  show execCalErase s = _
  rw [execCalErase, State.whenLive_live _ live, State.unlessHeld_unlockable _ free]

theorem exec_badServiceRequest : exec .badServiceRequest s = .next (s.answer .range) := by
  show execBadServiceRequest s = _
  rw [execBadServiceRequest, State.whenLive_live _ live, State.unlessHeld_unlockable _ free]

/-! ### The requests by their own test (R177, R179, R180, R182) -/

section
variable (unlocked : s.retained.lockEngaged = false)
include unlocked

theorem exec_calZero : exec .calZero s =
    .next (if s.deckDisturbed then s.answer .unstable else s.askHold .zero) := by
  show execCalZero s = _
  rw [execCalZero, State.whenLive_live _ live, State.unlessHeld_unlocked _ free unlocked]

theorem exec_calSpan (mass : BitVec 24) : exec (.calSpan mass) s =
    .next (if massOk mass.toNat then s.askHold (.span mass.toNat) else s.answer .range) := by
  show execCalSpan mass s = _
  rw [execCalSpan, State.whenLive_live _ live, State.unlessHeld_unlocked _ free unlocked]

theorem exec_calCorner_commits {channel : Byte} {factor : BitVec 24} {c : Channel}
    (names : cornerChannel s.cfg.channelMap channel factor.toNat = some c) :
    exec (.calCorner channel factor) s = .next (s.commitRequest .corner (.corner c factor.toNat)) := by
  show execCalCorner channel factor s = _
  rw [execCalCorner, State.whenLive_live _ live, State.unlessHeld_unlocked _ free unlocked, names]

theorem exec_calCorner_range {channel : Byte} {factor : BitVec 24}
    (bad : cornerChannel s.cfg.channelMap channel factor.toNat = none) :
    exec (.calCorner channel factor) s = .next (s.answer .range) := by
  show execCalCorner channel factor s = _
  rw [execCalCorner, State.whenLive_live _ live, State.unlessHeld_unlocked _ free unlocked, bad]

theorem exec_calInterval (interval : Byte) (capacity : BitVec 24) : exec (.calInterval interval capacity) s =
    .next (if intervalOk interval.toNat capacity.toNat then
      s.commitRequest .interval (.interval interval.toNat capacity.toNat) else s.answer .range) := by
  show execCalInterval interval capacity s = _
  rw [execCalInterval, State.whenLive_live _ live, State.unlessHeld_unlocked _ free unlocked]

theorem exec_calLock : exec .calLock s = .next (if s.retained.cal.cellCount = (scanList s.cfg.channelMap).length then
    s.commitRequest .lock .lock else s.answer .range) := by
  show execCalLock s = _
  rw [execCalLock, State.whenLive_live _ live, State.unlessHeld_unlocked _ free unlocked]
  rfl

end

end

end

/-- Settles O55: the contents of the reads part by part, and each request by the first of its tests that applies. -/
theorem serviceRequestsAreSettledByTheFirstTest : Obligations.ServiceRequestsAreSettledByTheFirstTest := by
  intro s live answered committing held disturbed flag bytes counts2 cal calRead w kept scan weighPart arm deckPart
    linkPart peer peersPart cursor cursorPart calPart
  refine ⟨?_, ?_, fun mass capacity factor interval channel => ?_⟩
  · have content : calReadContent s.retained = calRead := by
      rw [calReadContent, flatten_toList_map, flatten_toList_map]
      simp only [List.append_assoc, calRead]
      rfl
    rw [exec_calRead live, content]
    rfl
  · have weighs : statusWeigh s = weighPart := by
      have counts : scanCount s.weigh.lastScan = kept := funext (scanCount_eq _)
      simp only [statusWeigh, scanMask, counts, scanByte_eq, monitorBits_eq, weightBits_eq, List.append_assoc, weighPart]
      rfl
    have deck : statusDeck s = deckPart := by
      simp only [statusDeck, choiceByte_eq, headBits_eq, PrinterState.code_eq, deckPart]
      rfl
    have link : statusLink s = linkPart := by
      simp only [statusLink, List.append_assoc, linkPart]
      rfl
    have peers : statusPeers s = peersPart := by
      have entries : peerBytes = peer := funext peerBytes_eq
      rw [statusPeers, flatten_toList_map, entries, timeBytes_eq]
      rfl
    have walk : statusCursor s.visits = cursorPart := by
      rw [statusCursor, cursorVisit_eq]
      rfl
    have calibration : statusCal s = calPart := by
      rw [statusCal, requestCode_eq]
      rfl
    rw [exec_status live, statusContent, weighs, deck, link, peers, walk, calibration]
    rfl
  · intro lockable d cornerOk intervalInRange
    have holds (r : CalRequest) : .next (s.askHold r) = held r := apply_ite _ _ _ _
    refine ⟨exec_request_busy live mass capacity factor interval channel, fun free =>
      ⟨exec_badServiceRequest live free, exec_calErase live free,
        exec_request_locked live free mass capacity factor interval channel, fun unlocked => ?_⟩⟩
    have zero := exec_calZero live free unlocked
    have span := exec_calSpan live free unlocked mass
    have sets := exec_calInterval live free unlocked interval capacity
    have lock := exec_calLock live free unlocked
    refine ⟨fun disturbs => ?_, fun calm => ?_, fun inRange => ?_, fun outOfRange => ?_, fun ok => ?_, fun bad => ?_,
      fun ok => ?_, fun bad => ?_, fun same => ?_, fun other => ?_⟩
    · exact zero.trans (congrArg _ (if_pos (s.deckDisturbed_iff.2 disturbs)))
    · rw [zero, if_neg (mt s.deckDisturbed_iff.1 calm), holds]
    · rw [span, if_pos ((massOk_iff _).2 inRange), holds]
    · exact span.trans (congrArg _ (if_neg (mt (massOk_iff _).1 outOfRange)))
    · exact exec_calCorner_commits live free unlocked (cornerChannel_some ok)
    · exact exec_calCorner_range live free unlocked (cornerChannel_none bad)
    · exact sets.trans (congrArg _ (if_pos ((intervalOk_iff _ _).2 ok)))
    · exact sets.trans (congrArg _ (if_neg (mt (intervalOk_iff _ _).1 bad)))
    · exact lock.trans (congrArg _ (if_pos same))
    · exact lock.trans (congrArg _ (if_neg other))

end Sys2Proof.Machine
end
